-- ==== Sys2Proof/Word.lean ====
section
/-! DEFINITION. The word types of the block. -/

namespace Sys2Proof

/-- A byte, an unsigned integer 0..255; bit 0 is the least significant (R7). -/
abbrev Byte := BitVec 8

/-- The 64-bit packet word `P`, `d0` in `P[63:56]` (R7, R55). -/
abbrev PacketWord := BitVec 64

/-- The 16-bit CRC register and the wire CRC (R14, R100). -/
abbrev Crc := BitVec 16

/-- A rain total; `TOTAL_W` = 32 bits (R6, R25, R26). DESIGN CHOICE, see log entry 7. -/
abbrev Total := BitVec 32

end Sys2Proof
end

