-- ==== Sys2Proof/Config.lean ====
section
/-! DEFINITION. The implementation parameters of R6 and the one free value the spec leaves open. -/

namespace Sys2Proof.Config

/-- `PKT_LEN`, bytes in a packet (R6). -/
def pktLen : Nat := 8

/-- `CRC_LEN`, bytes the CRC covers (R6, R101). -/
def crcLen : Nat := 6

/-- `CRC_POLY`: `x^16 + x^12 + x^5 + 1` with the `x^16` term implied (R6, R100). -/
def crcPoly : Crc := 0x1021#16

/-- `CRC_INIT` (R6, R100). There is no reflection and no final exclusive-or. -/
def crcInit : Crc := 0x0000#16

/-- `RAIN_MOD`, the modulus of the sensor's rain-click counter (R6, R124). -/
def rainMod : Nat := 128

/-- `K_MPH`, raw wind unit to km/h: 1.60934 as an exact rational (R6, R140). -/
def kMph : Rat := 160934 / 100000

/-- `ROUND`, the map from an exact value to a delivered number (R6, R140). OPEN in the spec: a model may assume nothing
of it but that it depends on its argument alone. A free value (log entry 6): no proof can see what it is. -/
opaque round : Rat → Rat

end Sys2Proof.Config
end

