-- ==== Sys2Proof/Syntax.lean ====
section
/-! DEFINITION. What the host presents and what the decoder dispatches on: one constructor of `Instr` per row of
spec/opcode_table.json. -/

namespace Sys2Proof

/-- The eight bytes `d0 .. d7` of a packet, in order of reception (R11, R41, R55). -/
structure Packet where
  d0 : Byte
  d1 : Byte
  d2 : Byte
  d3 : Byte
  d4 : Byte
  d5 : Byte
  d6 : Byte
  d7 : Byte
deriving DecidableEq, Repr

/-- The fields of format PKT64 below its opcode (R55, R60): every bit of the packet word but `TYPE`, so that no bit of an
encoding is dropped. The letters are those of the table's `encoding` strings. -/
structure Fields where
  /-- `b`: `d0[3]`. -/
  batt : Bool
  /-- `u`: `d0[2:0]`, read by nothing but the CRC (R59). -/
  unused0 : BitVec 3
  /-- `s`: `d1`. -/
  wspd : Byte
  /-- `d`: `d2`. -/
  wdir : Byte
  /-- `x`: `d3`. -/
  t3 : Byte
  /-- `y`: `d4`. -/
  t4 : Byte
  /-- `z`: `d5`, read by nothing but the CRC (R59). -/
  t5 : Byte
  /-- `c`: the wire CRC `{d6, d7}`. -/
  wireCrc : Crc
deriving DecidableEq, Repr

/-- One sample of the input ports `rst`, `cmd`, `pkt_in` (R15, R80). -/
structure Input where
  rst : Bool
  cmd : BitVec 3
  pktIn : PacketWord
deriving DecidableEq, Repr

/-- The instructions: sixteen message types (format PKT64, R60), eight command codes (format CMD3, R70) and the reset
step (format RST, R72). -/
inductive Instr where
  | m0Ign (f : Fields)
  | m1Ign (f : Fields)
  | m2Goldcap (f : Fields)
  | m3Rsvd (f : Fields)
  | m4Ign (f : Fields)
  | m5Rainrate (f : Fields)
  | m6Ign (f : Fields)
  | m7Solar (f : Fields)
  | m8Temp (f : Fields)
  | m9Gust (f : Fields)
  | maHum (f : Fields)
  | mbIgn (f : Fields)
  | mcIgn (f : Fields)
  | mdIgn (f : Fields)
  | meRainclk (f : Fields)
  | mfIgn (f : Fields)
  | nop
  | load (pktIn : PacketWord)
  | loadr (pktIn : PacketWord)
  | check
  | decode
  | process
  | clrdaily
  | rsvd7
  | reset
deriving DecidableEq, Repr

/-- The words of an instruction: a packet word (PKT64), or a sample of the input ports (CMD3 and RST). -/
inductive Code where
  | packet (p : PacketWord)
  | ports (i : Input)
deriving DecidableEq, Repr

end Sys2Proof
end

