-- ==== Sys2Proof/WellFormed.lean ====
section
/-! DEFINITION. Which instructions are well formed, and which codes are in the one form the encoder gives. -/

namespace Sys2Proof

/-- Every instruction is well formed. Packets: "Every 64-bit value is a well-formed packet: there is no illegal encoding"
(R60), and `Fields` holds exactly the bits below `TYPE`. Commands and reset: every input has a defined next state (R80,
R192), the reserved code 7 among them (R88). -/
def Instr.wf (_ : Instr) : Bool := true

/-- Every `cmd` but LOAD and LOADR ignores `pkt_in` (R70), and a reset ignores `cmd` and `pkt_in` (R72). The canonical
sample for an instruction holds zero in every ignored port. -/
def Input.canonical (i : Input) : Bool :=
  if i.rst then i.cmd == 0#3 && i.pktIn == 0#64
  else i.cmd == 1#3 || i.cmd == 2#3 || i.pktIn == 0#64

/-- A code in canonical form: a packet word has no ignored representation, a port sample holds zero in every ignored
port. -/
def Code.canonical : Code → Bool
  | .packet _ => true
  | .ports i => i.canonical

end Sys2Proof
end

