-- ==== Sys2Proof/Decode.lean ====
section
/-! DEFINITION. The packet as bytes, as a word and as fields; decoding and encoding of every format; the line encodings of
R73; the decoder as the opcode table numbers its bits. -/

namespace Sys2Proof

/-! ## Packets: bytes, word, fields -/

/-- Byte `i` of a 64-bit operand is `P[63-8i : 56-8i]` (R15, R55). -/
def Packet.ofWord (w : PacketWord) : Packet where
  d0 := w.extractLsb' 56 8
  d1 := w.extractLsb' 48 8
  d2 := w.extractLsb' 40 8
  d3 := w.extractLsb' 32 8
  d4 := w.extractLsb' 24 8
  d5 := w.extractLsb' 16 8
  d6 := w.extractLsb' 8 8
  d7 := w.extractLsb' 0 8

/-- `P = {d0, d1, d2, d3, d4, d5, d6, d7}` (R7). -/
def Packet.toWord (p : Packet) : PacketWord :=
  p.d0 ++ p.d1 ++ p.d2 ++ p.d3 ++ p.d4 ++ p.d5 ++ p.d6 ++ p.d7

/-- `TYPE = d0[7:4]` (R56). -/
def Packet.msgType (p : Packet) : BitVec 4 := p.d0.extractLsb' 4 4

/-- The fields of format PKT64 below `TYPE` (R55). `BATT` is `d0[3]` (R56). -/
def Packet.fields (p : Packet) : Fields where
  batt := p.d0.getLsbD 3
  unused0 := p.d0.extractLsb' 0 3
  wspd := p.d1
  wdir := p.d2
  t3 := p.d3
  t4 := p.d4
  t5 := p.d5
  wireCrc := p.d6 ++ p.d7

/-- The packet of message type `t` with fields `f`: the inverse of `msgType` and `fields` (R55). -/
def Fields.packet (t : BitVec 4) (f : Fields) : Packet where
  d0 := t ++ BitVec.ofBool f.batt ++ f.unused0
  d1 := f.wspd
  d2 := f.wdir
  d3 := f.t3
  d4 := f.t4
  d5 := f.t5
  d6 := f.wireCrc.extractLsb' 8 8
  d7 := f.wireCrc.extractLsb' 0 8

/-! ## Decoding -/

/-- The type map (R60): `TYPE` selects one of sixteen decode operations; none is illegal (R60, R61). -/
def messageInstr (t : BitVec 4) (f : Fields) : Instr :=
  match t with
  | 0x0#4 => .m0Ign f
  | 0x1#4 => .m1Ign f
  | 0x2#4 => .m2Goldcap f
  | 0x3#4 => .m3Rsvd f
  | 0x4#4 => .m4Ign f
  | 0x5#4 => .m5Rainrate f
  | 0x6#4 => .m6Ign f
  | 0x7#4 => .m7Solar f
  | 0x8#4 => .m8Temp f
  | 0x9#4 => .m9Gust f
  | 0xA#4 => .maHum f
  | 0xB#4 => .mbIgn f
  | 0xC#4 => .mcIgn f
  | 0xD#4 => .mdIgn f
  | 0xE#4 => .meRainclk f
  | _ => .mfIgn f

/-- The message-type instruction a packet is (R13, R60). -/
def decodePacket (p : Packet) : Instr := messageInstr p.msgType p.fields

/-- The command codes (R70): LOAD and LOADR take `pkt_in`, the others ignore it. -/
def decodeCommand (cmd : BitVec 3) (pktIn : PacketWord) : Instr :=
  match cmd with
  | 0#3 => .nop
  | 1#3 => .load pktIn
  | 2#3 => .loadr pktIn
  | 3#3 => .check
  | 4#3 => .decode
  | 5#3 => .process
  | 6#3 => .clrdaily
  | _ => .rsvd7

/-- What one sample of the input ports tells the block to do: `rst` overrides `cmd` (R72, R80, R168). -/
def decodeInput (i : Input) : Instr :=
  if i.rst then .reset else decodeCommand i.cmd i.pktIn

/-- The decoder, total on every code (R60, R80): no code is rejected. -/
def decode : Code → Instr
  | .packet w => decodePacket (Packet.ofWord w)
  | .ports i => decodeInput i

/-! ## Encoding -/

/-- The packet word of message type `t` with fields `f`. -/
def packetCode (t : BitVec 4) (f : Fields) : Code := .packet (f.packet t).toWord

/-- The port sample of command `c` with operand `w`. -/
def commandCode (c : BitVec 3) (w : PacketWord) : Code := .ports ⟨false, c, w⟩

/-- The canonical words of an instruction (R60, R70, R72). -/
def encode : Instr → Code
  | .m0Ign f => packetCode 0x0 f
  | .m1Ign f => packetCode 0x1 f
  | .m2Goldcap f => packetCode 0x2 f
  | .m3Rsvd f => packetCode 0x3 f
  | .m4Ign f => packetCode 0x4 f
  | .m5Rainrate f => packetCode 0x5 f
  | .m6Ign f => packetCode 0x6 f
  | .m7Solar f => packetCode 0x7 f
  | .m8Temp f => packetCode 0x8 f
  | .m9Gust f => packetCode 0x9 f
  | .maHum f => packetCode 0xA f
  | .mbIgn f => packetCode 0xB f
  | .mcIgn f => packetCode 0xC f
  | .mdIgn f => packetCode 0xD f
  | .meRainclk f => packetCode 0xE f
  | .mfIgn f => packetCode 0xF f
  | .nop => commandCode 0 0
  | .load w => commandCode 1 w
  | .loadr w => commandCode 2 w
  | .check => commandCode 3 0
  | .decode => commandCode 4 0
  | .process => commandCode 5 0
  | .clrdaily => commandCode 6 0
  | .rsvd7 => commandCode 7 0
  | .reset => .ports ⟨true, 0, 0⟩

/-! ## The line encodings of R73, as text -/

/-- Why a text is no line encoding of R73. -/
inductive LineError where
  /-- The text is empty. -/
  | empty
  /-- The first character is neither `R` nor an octal digit. -/
  | badCommandCode
  /-- LOAD or LOADR without the colon. -/
  | missingColon
  /-- The operand is not 16 characters long. -/
  | operandLength
  /-- A character of the operand is no hexadecimal digit. -/
  | badHexDigit
  /-- Characters after a complete line. -/
  | trailing
deriving DecidableEq, Repr

/-- The value of a hexadecimal digit; both letter cases are read. DESIGN CHOICE, see log entry 13. -/
def hexValue (c : Char) : Option Nat :=
  let n := c.toNat
  if 48 ≤ n ∧ n ≤ 57 then some (n - 48)
  else if 65 ≤ n ∧ n ≤ 70 then some (n - 55)
  else if 97 ≤ n ∧ n ≤ 102 then some (n - 87)
  else none

/-- The hexadecimal digit of a value below 16, in capitals as R73 writes it. -/
def hexChar (n : Nat) : Char := if n < 10 then Char.ofNat (48 + n) else Char.ofNat (55 + n)

/-- The number a list of hexadecimal digits writes, most significant first, after the digits read so far. -/
def readHex (acc : Nat) : List Char → Option Nat
  | [] => some acc
  | c :: cs =>
    match hexValue c with
    | some d => readHex (acc * 16 + d) cs
    | none => none

/-- The `k` low hexadecimal digits of `n`, most significant first. -/
def writeHex (n : Nat) : Nat → List Char
  | 0 => []
  | k + 1 => hexChar (n / 16 ^ k % 16) :: writeHex n k

/-- Whether a command code takes the operand `pkt_in`: LOAD and LOADR (R70). -/
def takesOperand (c : BitVec 3) : Bool := c == 1#3 || c == 2#3

/-- The encoding of a line (R73): `R` for RESET, else the code as an octal digit and, for LOAD and LOADR, a colon and 16
hexadecimal digits, `d0` first. -/
def encodeLine (i : Input) : List Char :=
  if i.rst then ['R']
  else
    hexChar i.cmd.toNat :: (if takesOperand i.cmd then ':' :: writeHex i.pktIn.toNat 16 else [])

/-- Reads the operand of a LOAD or LOADR line, after the code. -/
def decodeLineOperand (c : BitVec 3) : List Char → Except LineError Input
  | ':' :: ds =>
    if ds.length = 16 then
      match readHex 0 ds with
      | some n => .ok ⟨false, c, BitVec.ofNat 64 n⟩
      | none => .error .badHexDigit
    else .error .operandLength
  | _ => .error .missingColon

/-- Reads a line encoding (R73); every other text is rejected by name. -/
def decodeLine : List Char → Except LineError Input
  | [] => .error .empty
  | c :: rest =>
    if c = 'R' then
      if rest = [] then .ok ⟨true, 0, 0⟩ else .error .trailing
    else
      match hexValue c with
      | none => .error .badCommandCode
      | some d =>
        if 8 ≤ d then .error .badCommandCode
        else if takesOperand (BitVec.ofNat 3 d) then decodeLineOperand (BitVec.ofNat 3 d) rest
        else if rest = [] then .ok ⟨false, BitVec.ofNat 3 d, 0⟩ else .error .trailing

/-! ## The table's own numbering -/

/-- The instruction of a word numbered as spec/opcode_table.json numbers it. The table has three formats that never meet
on one port, told apart by their width: 64 bits is a packet word, 1 bit the reset pin, any other width up to 32 the
command code with operand zero. A command code has three bits, so a word of 8 or more is refused. In whole bytes RESET's
word 1 cannot be told from LOAD's word 1: it reads as LOAD (log entry 4). -/
def decodeTableWord (nbits w : Nat) : Option Instr :=
  if nbits = 64 then
    if w < 2 ^ 64 then some (decode (.packet (BitVec.ofNat 64 w))) else none
  else if nbits = 1 then
    if w = 1 then some (decode (.ports ⟨true, 0, 0⟩)) else none
  else if nbits ≤ 32 ∧ w < 8 then some (decode (.ports ⟨false, BitVec.ofNat 3 w, 0⟩))
  else none

end Sys2Proof
end

