-- ==== Sys2Proof/Machine/Crc.lean ====
section
/-! DEFINITION. The CRC-16 function (R100), in its two equivalent forms. -/

namespace Sys2Proof.Machine

/-- One shift of the register: the bit leaving position 15 selects the polynomial (R100, R90). -/
def crcShift (c : Crc) : Crc :=
  if c.msb then (c <<< 1) ^^^ Config.crcPoly else c <<< 1

/-- One byte enters at the top and is shifted through, most significant bit first (R100). -/
def crcByte (c : Crc) (b : Byte) : Crc :=
  Nat.repeat crcShift 8 (c ^^^ (b.setWidth 16 <<< 8))

/-- `crc16(bytes)` (R100): preset 0x0000, bytes in order of increasing index, no reflection, no final exclusive-or. -/
def crc16 (bs : List Byte) : Crc := bs.foldl crcByte Config.crcInit

/-- One message bit `m` of the bitwise form: `t = c[15] ^ m; c <- c << 1; if t = 1 then c <- c ^ 0x1021` (R100). -/
def crcBit (c : Crc) (m : Bool) : Crc :=
  let t := c.msb ^^ m
  if t then (c <<< 1) ^^^ Config.crcPoly else c <<< 1

/-- The bits of a byte, most significant first. -/
def bitsMsbFirst (b : Byte) : List Bool :=
  [b.getLsbD 7, b.getLsbD 6, b.getLsbD 5, b.getLsbD 4, b.getLsbD 3, b.getLsbD 2, b.getLsbD 1, b.getLsbD 0]

/-- The bitwise form of `crc16` (R100). -/
def crc16Bitwise (bs : List Byte) : Crc := (bs.flatMap bitsMsbFirst).foldl crcBit Config.crcInit

end Sys2Proof.Machine
end

