-- ==== Sys2Proof/Machine/Operands.lean ====
section
/-! DEFINITION. The operand forms: the packet operand of LOAD and LOADR, and the raw fields the decoder cuts from the
type-specific bytes (R57, R58). All are unsigned; nothing is sign-extended or scaled. -/

namespace Sys2Proof.Machine

/-- `rev8(b)`: bit `i` of the result is bit `7 - i` of `b` (R43). -/
def rev8 (b : Byte) : Byte :=
  BitVec.ofBool (b.getLsbD 0) ++ BitVec.ofBool (b.getLsbD 1) ++ BitVec.ofBool (b.getLsbD 2) ++
    BitVec.ofBool (b.getLsbD 3) ++ BitVec.ofBool (b.getLsbD 4) ++ BitVec.ofBool (b.getLsbD 5) ++
    BitVec.ofBool (b.getLsbD 6) ++ BitVec.ofBool (b.getLsbD 7)

/-- `rev8` of each byte, the order of the bytes kept (R44, R83). -/
def reverseEachByte (p : Packet) : Packet where
  d0 := rev8 p.d0
  d1 := rev8 p.d1
  d2 := rev8 p.d2
  d3 := rev8 p.d3
  d4 := rev8 p.d4
  d5 := rev8 p.d5
  d6 := rev8 p.d6
  d7 := rev8 p.d7

/-- The operand of LOAD: true bytes, stored unchanged (R82). -/
def loadOperand (pktIn : PacketWord) : Packet := Packet.ofWord pktIn

/-- The operand of LOADR: bytes as drained from the transceiver, each bit-reversed (R83). -/
def loadrOperand (pktIn : PacketWord) : Packet := reverseEachByte (Packet.ofWord pktIn)

/-- GOLDCAP = `{d3, d4[7:6]}`, sub-format F-TOP10 (R58, C3). -/
def goldcapField (f : Fields) : BitVec 10 := f.t3 ++ f.t4.extractLsb' 6 2

/-- RR_RAW = `{d4[5:4], d3}`, sub-format F-RAIN (R58). -/
def rainRawField (f : Fields) : BitVec 10 := f.t4.extractLsb' 4 2 ++ f.t3

/-- RR_MODE = `d4[6]` (R58). -/
def rainModeField (f : Fields) : Bool := f.t4.getLsbD 6

/-- SOLAR = `{d3, d4[7:6]}`, sub-format F-TOP10 (R58, C3). -/
def solarField (f : Fields) : BitVec 10 := f.t3 ++ f.t4.extractLsb' 6 2

/-- TEMP = `{d3, d4}`, sub-format F-WORD (R58). -/
def tempField (f : Fields) : BitVec 16 := f.t3 ++ f.t4

/-- GUST = `d3`, sub-format F-BYTE (R58). -/
def gustField (f : Fields) : BitVec 8 := f.t3

/-- HUM = `{d4[7:4], d3}`, sub-format F-LOW12 (R58). -/
def humField (f : Fields) : BitVec 12 := f.t4.extractLsb' 4 4 ++ f.t3

/-- COUNT = `d3[6:0]`, sub-format F-CNT7 (R58). -/
def countField (f : Fields) : BitVec 7 := f.t3.extractLsb' 0 7

end Sys2Proof.Machine
end

