-- ==== Sys2Proof/Machine/State.lean ====
section
/-! DEFINITION. The state of the block (R10), its reset values (R31, R180), and the reasons a step can stop. -/

namespace Sys2Proof.Machine

/-- The reception-event record STATUS.EVENT (R12): `{none | success | crcError}`. Code 3 never occurs. -/
inductive Event where
  | none
  | success
  | crcError
deriving DecidableEq, Repr

/-- STATUS (R12). -/
structure Status where
  event : Event
  /-- The decoder has run on the packet now in PKT. -/
  decoded : Bool
  /-- The last run of the decoder met the rain-rate zero divisor. -/
  div0 : Bool
  /-- The reserved command code 7 has been presented since reset. Sticky. -/
  cmdErr : Bool
deriving DecidableEq, Repr

/-- The result register COMMON (R17). -/
structure Common where
  valid : Bool
  msgType : BitVec 4
  batt : Bool
  wspd : Byte
  wdir : Byte
deriving DecidableEq, Repr

/-- A result register of one raw field: its valid bit and its raw field (R18, R20 to R23). -/
structure ResultReg (w : Nat) where
  valid : Bool
  raw : BitVec w
deriving DecidableEq, Repr

/-- The result register RAINRATE (R19). `mode` is RR_MODE, `false` the high-rate mode. -/
structure RainRate where
  valid : Bool
  mode : Bool
  raw : BitVec 10
deriving DecidableEq, Repr

/-- The result register RAINCLK (R24). -/
structure RainClk where
  seeded : Bool
  count : BitVec 7
  diff : BitVec 7
deriving DecidableEq, Repr

/-- "The complete state of the block is the following list and nothing else" (R10). -/
structure Block where
  pkt : Packet
  status : Status
  common : Common
  goldcap : ResultReg 10
  rainRate : RainRate
  solar : ResultReg 10
  temp : ResultReg 16
  gust : ResultReg 8
  hum : ResultReg 12
  rainClk : RainClk
  rainDaily : Total
  rainTotal : Total
deriving DecidableEq, Repr

/-- The machine: the block of R10, and what the host will present on the input ports, one sample per step, oldest first.
The ports are no state of the block (R10); they stand here because the step takes no other argument. DESIGN CHOICE, see
log entry 1. -/
structure State extends Block where
  inputs : List Input
deriving DecidableEq, Repr

/-- `reset_state` (R31, R180): every state element zero, EVENT NONE. -/
def Block.reset : Block where
  pkt := ⟨0, 0, 0, 0, 0, 0, 0, 0⟩
  status := ⟨.none, false, false, false⟩
  common := ⟨false, 0, false, 0, 0⟩
  goldcap := ⟨false, 0⟩
  rainRate := ⟨false, false, 0⟩
  solar := ⟨false, 0⟩
  temp := ⟨false, 0⟩
  gust := ⟨false, 0⟩
  hum := ⟨false, 0⟩
  rainClk := ⟨false, 0, 0⟩
  rainDaily := 0
  rainTotal := 0

/-- The machine right after reset, with a host that has nothing more to present (log entries 1, 2). -/
def State.reset : State := { Block.reset with inputs := [] }

/-- The faults of a step: none. "There is no busy state, no wait, no refusal and no fault" (R80, R160), so no constructor
stands here and nothing raises one. -/
inductive Fault where
deriving DecidableEq, Repr

/-- The refusals of a step. -/
inductive Refusal where
  /-- Raised by an arm of `exec` whose instruction has no meaning yet; safe. No arm of this model raises it. -/
  | notModelled (mnemonic : String)
deriving DecidableEq, Repr

/-- The outcome of a step of this machine. -/
abbrev Outcome := Host.Outcome State Fault Refusal

end Sys2Proof.Machine
end

