-- ==== Sys2Proof/Machine/Flags.lean ====
section
/-! DEFINITION. Every flag the block computes: the derived CRC outputs of R14, the outcome CHECK and PROCESS record, and
the zero-divisor condition. There are no arithmetic flags (R28). -/

namespace Sys2Proof.Machine

/-- The bytes of a packet in index order (R41). -/
def packetBytes (p : Packet) : List Byte := [p.d0, p.d1, p.d2, p.d3, p.d4, p.d5, p.d6, p.d7]

/-- The covered bytes `d0 .. d5` (R9, R101). -/
def coveredBytes (p : Packet) : List Byte := (packetBytes p).take Config.crcLen

/-- CRC_CALC (R14, R101). -/
def crcCalc (p : Packet) : Crc := crc16 (coveredBytes p)

/-- CRC_WIRE = `{PKT[6], PKT[7]}`, big-endian (R14, R41). -/
def crcWire (p : Packet) : Crc := p.d6 ++ p.d7

/-- CRC_MATCH (R14, R102). -/
def crcMatch (p : Packet) : Bool := crcCalc p == crcWire p

/-- CRC_NONZERO (R14, R102). -/
def crcNonzero (p : Packet) : Bool := crcCalc p != 0x0000#16

/-- CRC_VALID: a packet is valid exactly when both conditions hold (R102). -/
def crcValid (p : Packet) : Bool := crcMatch p && crcNonzero p

/-- The value CHECK and PROCESS write to STATUS.EVENT (R84, R86, R102): one failure code for both reasons (R162). -/
def checkEvent (p : Packet) : Event := if crcValid p then .success else .crcError

/-- "no rain": `d3 = 255`, tested before the division (R118, R168). -/
def noRain (f : Fields) : Bool := f.t3 == 255#8

/-- The rain-rate zero divisor (R119): the division would be reached and `raw` is 0. -/
def rainZeroDivisor (f : Fields) : Bool := !(noRain f) && rainRawField f == 0#10

/-- The 2-bit code of EVENT (R12, R30). -/
def eventCode : Event → BitVec 2
  | .none => 0
  | .success => 1
  | .crcError => 2

end Sys2Proof.Machine
end

