-- ==== Sys2Proof/Machine/Ops.lean ====
section
/-! DEFINITION. The named operations over the packet register, STATUS and the result registers, and over the input ports.
The block takes no exception and has no return from one (R160, R169, R170), so no operation for either stands here: a
condition is a value written to a status field. -/

namespace Sys2Proof.Machine

/-! ## The packet register -/

/-- `MemRead(i, 1)` (R46): `PKT[i]` for 0..7, the sentinel 0xFF for 8..255. -/
def memRead (p : Packet) (i : BitVec 8) : Byte :=
  match i.toNat with
  | 0 => p.d0
  | 1 => p.d1
  | 2 => p.d2
  | 3 => p.d3
  | 4 => p.d4
  | 5 => p.d5
  | 6 => p.d6
  | 7 => p.d7
  | _ => 0xFF#8

/-- The store of LOAD and LOADR (R45, R82, R83): all eight bytes together; EVENT, DECODED and DIV0 are cleared, CMD_ERR
is not. -/
def storePacket (p : Packet) (s : State) : State :=
  { s with pkt := p, status := ⟨.none, false, false, s.status.cmdErr⟩ }

/-! ## STATUS -/

/-- `STATUS.EVENT <- e` (R84, R86). -/
def setEvent (e : Event) (s : State) : State := { s with status := { s.status with event := e } }

/-- `STATUS.DIV0 <- 1` (R119). -/
def setDiv0 (s : State) : State := { s with status := { s.status with div0 := true } }

/-- `STATUS.CMD_ERR <- 1` (R88). -/
def setCmdErr (s : State) : State := { s with status := { s.status with cmdErr := true } }

/-! ## The decoder's writes -/

/-- What every decoder run writes (R114, R110): `DECODED <- 1`, `DIV0 <- 0`, and the five common fields. -/
def beginRun (t : BitVec 4) (f : Fields) (s : State) : State :=
  { s with
    status := { s.status with decoded := true, div0 := false }
    common := ⟨true, t, f.batt, f.wspd, f.wdir⟩ }

/-- `GOLDCAP <- v; GOLDCAP_V <- 1` (R112). -/
def writeGoldcap (v : BitVec 10) (s : State) : State := { s with goldcap := ⟨true, v⟩ }

/-- `RR_RAW <- raw; RR_MODE <- mode; RAINRATE_V <- 1` (R118). -/
def writeRainRate (mode : Bool) (raw : BitVec 10) (s : State) : State :=
  { s with rainRate := ⟨true, mode, raw⟩ }

/-- `SOLAR <- v; SOLAR_V <- 1` (R120). -/
def writeSolar (v : BitVec 10) (s : State) : State := { s with solar := ⟨true, v⟩ }

/-- `TEMP <- v; TEMP_V <- 1` (R121). -/
def writeTemp (v : BitVec 16) (s : State) : State := { s with temp := ⟨true, v⟩ }

/-- `GUST <- v; GUST_V <- 1` (R122). -/
def writeGust (v : BitVec 8) (s : State) : State := { s with gust := ⟨true, v⟩ }

/-- `HUM <- v; HUM_V <- 1` (R123). -/
def writeHum (v : BitVec 12) (s : State) : State := { s with hum := ⟨true, v⟩ }

/-! ## Rain clicks -/

/-- The rain-click difference (R124, R90): zero on the first observation, else `count - prev` with modulo-128 wraparound,
computed exactly in the natural numbers and never negative. -/
def rainDiff (r : RainClk) (count : BitVec 7) : BitVec 7 :=
  if r.seeded = false then 0#7
  else if r.count.toNat ≤ count.toNat then BitVec.ofNat 7 (count.toNat - r.count.toNat)
  else BitVec.ofNat 7 (count.toNat + Config.rainMod - r.count.toNat)

/-- A total after `diff` more clicks: wraps modulo `2^32`, no flag (R25, R26, R90). -/
def accumulate (total : Total) (diff : BitVec 7) : Total := total + diff.setWidth 32

/-- The type-specific writes of ME.RAINCLK (R124); the difference is computed from the state before the step (R117). -/
def countRain (count : BitVec 7) (s : State) : State :=
  let diff := rainDiff s.rainClk count
  { s with
    rainClk := ⟨true, count, diff⟩
    rainDaily := accumulate s.rainDaily diff
    rainTotal := accumulate s.rainTotal diff }

/-- `RAIN_DAILY <- 0` (R87). -/
def clearDaily (s : State) : State := { s with rainDaily := 0 }

/-! ## Reset and the input ports -/

/-- The reset step (R180): the block goes to `reset_state`; what the host will present next is no state of the block and
stays (log entry 8). -/
def resetBlock (s : State) : State := { Block.reset with inputs := s.inputs }

/-- The port sample of a host that presents nothing: NOP (R80, R81). -/
def idleInput : Input := ⟨false, 0, 0⟩

/-- Samples the input ports (R80): the oldest sample the host presents, and the state without it. "a run ends when the
host stops presenting commands, and the state then simply persists (a NOP forever is the same thing)" (R80): with nothing
presented, the sample is NOP. -/
def sampleInput (s : State) : Input × State :=
  match s.inputs with
  | [] => (idleInput, s)
  | i :: rest => (i, { s with inputs := rest })

/-- The host presents one more sample, before all those it has still to present. -/
def presentInput (i : Input) (s : State) : State := { s with inputs := i :: s.inputs }

/-- The machine about to run the instruction of a word numbered as spec/opcode_table.json numbers it. A packet word is
run by putting it in PKT and presenting DECODE, the command that runs the decoder on PKT (R13, R85); a reset or command
word is presented on the ports, with operand zero. Log entries 2, 3. -/
def presentTableWord (s : State) (nbits w : Nat) : State :=
  if nbits = 64 then
    presentInput ⟨false, 4, 0⟩ { s with pkt := Packet.ofWord (BitVec.ofNat 64 w) }
  else if nbits = 1 then presentInput ⟨decide (w = 1), 0, 0⟩ s
  else presentInput ⟨false, BitVec.ofNat 3 w, 0⟩ s

end Sys2Proof.Machine
end

