-- ==== Sys2Proof/Machine/Messages.lean ====
section
/-! DEFINITION. The meanings of the sixteen message types (format PKT64, R60): each is the decoder run of R114 on a packet
of that type. All writes of a run take effect together (R114, R117). -/

namespace Sys2Proof.Machine

/-! ## Types with output -/

/-- M2.GOLDCAP (R112). -/
def execM2Goldcap (f : Fields) (s : State) : Outcome :=
  .next (writeGoldcap (goldcapField f) (beginRun 0x2 f s))

/-- M5.RAINRATE: the storing case (R118), or the zero divisor (R119), which leaves RAINRATE as it was. -/
def execM5Rainrate (f : Fields) (s : State) : Outcome :=
  if rainZeroDivisor f then .next (setDiv0 (beginRun 0x5 f s))
  else .next (writeRainRate (rainModeField f) (rainRawField f) (beginRun 0x5 f s))

/-- M7.SOLAR (R120). -/
def execM7Solar (f : Fields) (s : State) : Outcome :=
  .next (writeSolar (solarField f) (beginRun 0x7 f s))

/-- M8.TEMP (R121). -/
def execM8Temp (f : Fields) (s : State) : Outcome :=
  .next (writeTemp (tempField f) (beginRun 0x8 f s))

/-- M9.GUST (R122). -/
def execM9Gust (f : Fields) (s : State) : Outcome :=
  .next (writeGust (gustField f) (beginRun 0x9 f s))

/-- MA.HUM (R123). -/
def execMaHum (f : Fields) (s : State) : Outcome :=
  .next (writeHum (humField f) (beginRun 0xA f s))

/-- ME.RAINCLK (R124). -/
def execMeRainclk (f : Fields) (s : State) : Outcome :=
  .next (countRain (countField f) (beginRun 0xE f s))

/-! ## Types without output: the common fields only (R61, C11) -/

/-- M3.RSVD: reserved, no type-specific output (R125). -/
def execM3Rsvd (f : Fields) (s : State) : Outcome := .next (beginRun 0x3 f s)

/-- M0.IGN: ignored, not an error (R126). -/
def execM0Ign (f : Fields) (s : State) : Outcome := .next (beginRun 0x0 f s)

/-- M1.IGN: ignored, not an error (R126). -/
def execM1Ign (f : Fields) (s : State) : Outcome := .next (beginRun 0x1 f s)

/-- M4.IGN: ignored, not an error (R126). -/
def execM4Ign (f : Fields) (s : State) : Outcome := .next (beginRun 0x4 f s)

/-- M6.IGN: ignored, not an error (R126). -/
def execM6Ign (f : Fields) (s : State) : Outcome := .next (beginRun 0x6 f s)

/-- MB.IGN: ignored, not an error (R126). -/
def execMbIgn (f : Fields) (s : State) : Outcome := .next (beginRun 0xB f s)

/-- MC.IGN: ignored, not an error (R126). -/
def execMcIgn (f : Fields) (s : State) : Outcome := .next (beginRun 0xC f s)

/-- MD.IGN: ignored, not an error (R126). -/
def execMdIgn (f : Fields) (s : State) : Outcome := .next (beginRun 0xD f s)

/-- MF.IGN: ignored, not an error (R126). -/
def execMfIgn (f : Fields) (s : State) : Outcome := .next (beginRun 0xF f s)

end Sys2Proof.Machine
end

