-- ==== Sys2Proof/Machine/Commands.lean ====
section
/-! DEFINITION. The decoder run on the packet in PKT, and the meanings of the eight command codes and the reset step. -/

namespace Sys2Proof.Machine

/-- `run_decoder` (R114): after the common fields the decoder selects by `TYPE = d0[7:4]` exactly one message type (R111);
the selection depends on nothing else. -/
def runDecoder (s : State) : Outcome :=
  match s.pkt.msgType with
  | 0x0#4 => execM0Ign s.pkt.fields s
  | 0x1#4 => execM1Ign s.pkt.fields s
  | 0x2#4 => execM2Goldcap s.pkt.fields s
  | 0x3#4 => execM3Rsvd s.pkt.fields s
  | 0x4#4 => execM4Ign s.pkt.fields s
  | 0x5#4 => execM5Rainrate s.pkt.fields s
  | 0x6#4 => execM6Ign s.pkt.fields s
  | 0x7#4 => execM7Solar s.pkt.fields s
  | 0x8#4 => execM8Temp s.pkt.fields s
  | 0x9#4 => execM9Gust s.pkt.fields s
  | 0xA#4 => execMaHum s.pkt.fields s
  | 0xB#4 => execMbIgn s.pkt.fields s
  | 0xC#4 => execMcIgn s.pkt.fields s
  | 0xD#4 => execMdIgn s.pkt.fields s
  | 0xE#4 => execMeRainclk s.pkt.fields s
  | _ => execMfIgn s.pkt.fields s

/-- NOP (R81). -/
def execNop (s : State) : Outcome := .next s

/-- LOAD (R82): the operand holds true bytes. -/
def execLoad (pktIn : PacketWord) (s : State) : Outcome := .next (storePacket (loadOperand pktIn) s)

/-- LOADR (R83): the operand holds bytes as drained from the transceiver. -/
def execLoadr (pktIn : PacketWord) (s : State) : Outcome := .next (storePacket (loadrOperand pktIn) s)

/-- CHECK (R84): an invalid packet is an outcome, not a fault. -/
def execCheck (s : State) : Outcome := .next (setEvent (checkEvent s.pkt) s)

/-- DECODE (R85): ungated, it does not look at the CRC. -/
def execDecode (s : State) : Outcome := runDecoder s

/-- PROCESS (R86): the validity test comes first; the decoder runs, in the same step, only if it passes (R168). -/
def execProcess (s : State) : Outcome :=
  if crcValid s.pkt then runDecoder (setEvent .success s) else .next (setEvent .crcError s)

/-- CLRDAILY (R87). -/
def execClrdaily (s : State) : Outcome := .next (clearDaily s)

/-- Reserved code 7 (R71, R88): the flag is implemented, the command is not refused (log entry 10). -/
def execRsvd7 (s : State) : Outcome := .next (setCmdErr s)

/-- RESET (R72, R180). -/
def execReset (s : State) : Outcome := .next (resetBlock s)

end Sys2Proof.Machine
end

