-- ==== Sys2Proof/Machine/Dispatch.lean ====
section
/-! DEFINITION. One arm per constructor of `Instr`. -/

namespace Sys2Proof.Machine

def exec (i : Instr) (s : State) : Host.Outcome State Fault Refusal :=
  match i with
  | .m0Ign f => Sys2Proof.Machine.execM0Ign f s
  | .m1Ign f => Sys2Proof.Machine.execM1Ign f s
  | .m2Goldcap f => Sys2Proof.Machine.execM2Goldcap f s
  | .m3Rsvd f => Sys2Proof.Machine.execM3Rsvd f s
  | .m4Ign f => Sys2Proof.Machine.execM4Ign f s
  | .m5Rainrate f => Sys2Proof.Machine.execM5Rainrate f s
  | .m6Ign f => Sys2Proof.Machine.execM6Ign f s
  | .m7Solar f => Sys2Proof.Machine.execM7Solar f s
  | .m8Temp f => Sys2Proof.Machine.execM8Temp f s
  | .m9Gust f => Sys2Proof.Machine.execM9Gust f s
  | .maHum f => Sys2Proof.Machine.execMaHum f s
  | .mbIgn f => Sys2Proof.Machine.execMbIgn f s
  | .mcIgn f => Sys2Proof.Machine.execMcIgn f s
  | .mdIgn f => Sys2Proof.Machine.execMdIgn f s
  | .meRainclk f => Sys2Proof.Machine.execMeRainclk f s
  | .mfIgn f => Sys2Proof.Machine.execMfIgn f s
  | .nop => Sys2Proof.Machine.execNop s
  | .load pktIn => Sys2Proof.Machine.execLoad pktIn s
  | .loadr pktIn => Sys2Proof.Machine.execLoadr pktIn s
  | .check => Sys2Proof.Machine.execCheck s
  | .decode => Sys2Proof.Machine.execDecode s
  | .process => Sys2Proof.Machine.execProcess s
  | .clrdaily => Sys2Proof.Machine.execClrdaily s
  | .rsvd7 => Sys2Proof.Machine.execRsvd7 s
  | .reset => Sys2Proof.Machine.execReset s

end Sys2Proof.Machine
end

