-- ==== Sys2Proof/Machine/Step.lean ====
section
/-! DEFINITION. One step of the machine, and the state about to run a given word. -/

namespace Sys2Proof.Machine

/-- One step (R80): the block samples the ports and runs what they present. -/
def step (s : State) : Host.Outcome State Fault Refusal :=
  exec (decodeInput (sampleInput s).1) (sampleInput s).2

/-- `s` with the instruction of a table word as the very next one `step` runs. The block has no fetch and no program
counter (R13): a packet word is placed in PKT with DECODE presented, a command or reset word is presented on the ports. -/
def State.withFetchWord (s : State) (nbits w : Nat) : State := presentTableWord s nbits w

end Sys2Proof.Machine
end

