-- ==== Sys2Proof/Machine/Listing.lean ====
section
/-! DEFINITION. The pseudo-instructions and packet mnemonics of R74, and the listing lines of R73 as text. -/

namespace Sys2Proof.Machine

/-- The six covered bytes of a packet under construction (R74). -/
structure SixBytes where
  b0 : Byte
  b1 : Byte
  b2 : Byte
  b3 : Byte
  b4 : Byte
  b5 : Byte
deriving DecidableEq, Repr

/-- `SEAL(b0 .. b5)`: the eight bytes whose wire CRC matches (R74). -/
def sealPacket (m : SixBytes) : Packet :=
  let k := crc16 [m.b0, m.b1, m.b2, m.b3, m.b4, m.b5]
  ⟨m.b0, m.b1, m.b2, m.b3, m.b4, m.b5, k.extractLsb' 8 8, k.extractLsb' 0 8⟩

/-- Byte 0 of a packet mnemonic: the type, `batt << 3`, unused bits zero (R74). -/
def headByte (t : BitVec 4) (batt : Bool) : Byte := t ++ BitVec.ofBool batt ++ 0#3

/-- `M2.GOLDCAP batt, wspd, wdir, g` (R74). -/
def mkGoldcap (batt : Bool) (wspd wdir : Byte) (g : BitVec 10) : SixBytes :=
  ⟨headByte 0x2 batt, wspd, wdir, g.extractLsb' 2 8, g.extractLsb' 0 2 ++ 0#6, 0⟩

/-- `M5.RAINRATE batt, wspd, wdir, mode, raw` (R74). -/
def mkRainrate (batt : Bool) (wspd wdir : Byte) (mode : Bool) (raw : BitVec 10) : SixBytes :=
  ⟨headByte 0x5 batt, wspd, wdir, raw.extractLsb' 0 8,
    0#1 ++ BitVec.ofBool mode ++ raw.extractLsb' 8 2 ++ 0#4, 0⟩

/-- `M7.SOLAR batt, wspd, wdir, s` (R74). -/
def mkSolar (batt : Bool) (wspd wdir : Byte) (s : BitVec 10) : SixBytes :=
  ⟨headByte 0x7 batt, wspd, wdir, s.extractLsb' 2 8, s.extractLsb' 0 2 ++ 0#6, 0⟩

/-- `M8.TEMP batt, wspd, wdir, t` (R74). -/
def mkTemp (batt : Bool) (wspd wdir : Byte) (t : BitVec 16) : SixBytes :=
  ⟨headByte 0x8 batt, wspd, wdir, t.extractLsb' 8 8, t.extractLsb' 0 8, 0⟩

/-- `M9.GUST batt, wspd, wdir, g` (R74). -/
def mkGust (batt : Bool) (wspd wdir : Byte) (g : BitVec 8) : SixBytes :=
  ⟨headByte 0x9 batt, wspd, wdir, g, 0, 0⟩

/-- `MA.HUM batt, wspd, wdir, h` (R74). -/
def mkHum (batt : Bool) (wspd wdir : Byte) (h : BitVec 12) : SixBytes :=
  ⟨headByte 0xA batt, wspd, wdir, h.extractLsb' 0 8, h.extractLsb' 8 4 ++ 0#4, 0⟩

/-- `ME.RAINCLK batt, wspd, wdir, c` (R74). -/
def mkRainclk (batt : Bool) (wspd wdir : Byte) (c : BitVec 7) : SixBytes :=
  ⟨headByte 0xE batt, wspd, wdir, 0#1 ++ c, 0, 0⟩

/-- `RECV`: LOAD then PROCESS (R74). -/
def recv (p : PacketWord) : List Input := [⟨false, 1, p⟩, ⟨false, 5, 0⟩]

/-- `RECVR`: LOADR then PROCESS (R74). -/
def recvr (w : PacketWord) : List Input := [⟨false, 2, w⟩, ⟨false, 5, 0⟩]

/-- `VERIFY`: a synonym of CHECK (R74). -/
def verify : List Input := [⟨false, 3, 0⟩]

/-! ## Listing lines as text (R73) -/

/-- Why a text is no listing line of R73, R74. -/
inductive ListingError where
  /-- The first word is no mnemonic of R73 or R74. -/
  | unknownMnemonic
  /-- A mnemonic without operand is followed by something, or an operand is neither eight bytes nor a SEAL. -/
  | badOperands
  /-- An operand byte is not two hexadecimal digits. -/
  | badByte
  /-- An operand of a packet mnemonic is no number. -/
  | badNumber
  /-- An operand of a packet mnemonic does not fit its field. -/
  | outOfRange
deriving DecidableEq, Repr

/-- The words of a line up to a comment; spaces, tabs and commas separate words, a parenthesis is a word of its own. The
characters of the word being read stand in `word`, last first. -/
def lineWords (word : List Char) : List Char → List (List Char)
  | [] => if word = [] then [] else [word.reverse]
  | c :: cs =>
    let done := if word = [] then [] else [word.reverse]
    if c = ';' then done
    else if c = ' ' ∨ c = '\t' ∨ c = ',' then done ++ lineWords [] cs
    else if c = '(' ∨ c = ')' then done ++ [c] :: lineWords [] cs
    else lineWords (c :: word) cs

/-- An operand byte: two hexadecimal digits without prefix (R73). -/
def wordByte (w : List Char) : Except ListingError Byte :=
  if w.length = 2 then
    match readHex 0 w with
    | some n => .ok (BitVec.ofNat 8 n)
    | none => .error .badByte
  else .error .badByte

/-- The decimal number a list of digits writes, after the digits read so far. -/
def readDecimal (acc : Nat) : List Char → Option Nat
  | [] => some acc
  | c :: cs => if 48 ≤ c.toNat ∧ c.toNat ≤ 57 then readDecimal (acc * 10 + (c.toNat - 48)) cs else none

/-- A number (R7): `0x` prefixes hexadecimal, a bare numeral is decimal. It must be below `2 ^ width`. -/
def wordNumber (width : Nat) (w : List Char) : Except ListingError (BitVec width) :=
  let value : Option Nat :=
    match w with
    | '0' :: 'x' :: ds => if ds = [] then none else readHex 0 ds
    | _ => if w = [] then none else readDecimal 0 w
  match value with
  | none => .error .badNumber
  | some n => if n < 2 ^ width then .ok (BitVec.ofNat width n) else .error .outOfRange

/-- A one-bit number. -/
def wordBit (w : List Char) : Except ListingError Bool := do
  let b ← wordNumber 1 w
  pure (b == 1#1)

/-- The six bytes a SEAL takes: six operand bytes, or a packet mnemonic with its operands (R74). -/
def sealOperand (ws : List (List Char)) : Except ListingError SixBytes :=
  match ws with
  | [m, b, s, d, v] =>
    if m = "M2.GOLDCAP".toList then
      return mkGoldcap (← wordBit b) (← wordNumber 8 s) (← wordNumber 8 d) (← wordNumber 10 v)
    else if m = "M7.SOLAR".toList then
      return mkSolar (← wordBit b) (← wordNumber 8 s) (← wordNumber 8 d) (← wordNumber 10 v)
    else if m = "M8.TEMP".toList then
      return mkTemp (← wordBit b) (← wordNumber 8 s) (← wordNumber 8 d) (← wordNumber 16 v)
    else if m = "M9.GUST".toList then
      return mkGust (← wordBit b) (← wordNumber 8 s) (← wordNumber 8 d) (← wordNumber 8 v)
    else if m = "MA.HUM".toList then
      return mkHum (← wordBit b) (← wordNumber 8 s) (← wordNumber 8 d) (← wordNumber 12 v)
    else if m = "ME.RAINCLK".toList then
      return mkRainclk (← wordBit b) (← wordNumber 8 s) (← wordNumber 8 d) (← wordNumber 7 v)
    else .error .badOperands
  | [m, b, s, d, v, w] =>
    if m = "M5.RAINRATE".toList then
      return mkRainrate (← wordBit b) (← wordNumber 8 s) (← wordNumber 8 d) (← wordBit v) (← wordNumber 10 w)
    else
      return ⟨← wordByte m, ← wordByte b, ← wordByte s, ← wordByte d, ← wordByte v, ← wordByte w⟩
  | _ => .error .badOperands

/-- Eight operand bytes as the operand `pkt_in` (R73). -/
def bytesOperand (ws : List (List Char)) : Except ListingError PacketWord :=
  match ws with
  | [a, b, c, d, e, f, g, h] => do
    let p : Packet := ⟨← wordByte a, ← wordByte b, ← wordByte c, ← wordByte d, ← wordByte e, ← wordByte f,
      ← wordByte g, ← wordByte h⟩
    pure p.toWord
  | _ => .error .badOperands

/-- The operand of LOAD and RECV: eight bytes, or a SEAL in parentheses (R73, R74). -/
def packetOperand (ws : List (List Char)) : Except ListingError PacketWord :=
  match ws with
  | s :: ['('] :: rest =>
    if s = "SEAL".toList ∧ rest.getLast? = some [')'] then
      return (sealPacket (← sealOperand rest.dropLast)).toWord
    else .error .badOperands
  | _ => bytesOperand ws

/-- The samples a mnemonic without operand stands for, if nothing follows it. -/
def noOperand (is : List Input) (ws : List (List Char)) : Except ListingError (List Input) :=
  if ws = [] then .ok is else .error .badOperands

/-- One listing line (R73) as the port samples it stands for, pseudo-instructions expanded (R74). A line that is empty but
for a comment stands for none. -/
def assembleLine (line : List Char) : Except ListingError (List Input) :=
  match lineWords [] line with
  | [] => .ok []
  | m :: ws =>
    if m = "RESET".toList then noOperand [⟨true, 0, 0⟩] ws
    else if m = "NOP".toList then noOperand [⟨false, 0, 0⟩] ws
    else if m = "LOAD".toList then return [⟨false, 1, ← packetOperand ws⟩]
    else if m = "LOADR".toList then return [⟨false, 2, ← bytesOperand ws⟩]
    else if m = "CHECK".toList then noOperand [⟨false, 3, 0⟩] ws
    else if m = "DECODE".toList then noOperand [⟨false, 4, 0⟩] ws
    else if m = "PROCESS".toList then noOperand [⟨false, 5, 0⟩] ws
    else if m = "CLRDAILY".toList then noOperand [⟨false, 6, 0⟩] ws
    else if m = "RECV".toList then return recv (← packetOperand ws)
    else if m = "RECVR".toList then return recvr (← bytesOperand ws)
    else if m = "VERIFY".toList then noOperand verify ws
    else .error .unknownMnemonic

end Sys2Proof.Machine
end

