-- ==== Sys2Proof/Machine/Ports.lean ====
section
/-! DEFINITION. The read ports (R15): combinational functions of the state and of an address pin, free of side effects
(R48). -/

namespace Sys2Proof.Machine

/-- `x[n]`, the 32-bit read value of register `n` of the read map (R30); every bit not named reads 0. -/
def readReg (s : Block) (n : BitVec 5) : BitVec 32 :=
  match n with
  | 0#5 =>
    0#21 ++ BitVec.ofBool (crcValid s.pkt) ++ BitVec.ofBool (crcNonzero s.pkt) ++ BitVec.ofBool (crcMatch s.pkt) ++
      0#3 ++ BitVec.ofBool s.status.cmdErr ++ BitVec.ofBool s.status.div0 ++ BitVec.ofBool s.status.decoded ++
      eventCode s.status.event
  | 1#5 => 0#16 ++ crcCalc s.pkt
  | 2#5 => 0#16 ++ crcWire s.pkt
  | 3#5 => s.pkt.d0 ++ s.pkt.d1 ++ s.pkt.d2 ++ s.pkt.d3
  | 4#5 => s.pkt.d4 ++ s.pkt.d5 ++ s.pkt.d6 ++ s.pkt.d7
  | 5#5 =>
    BitVec.ofBool s.common.valid ++ 0#10 ++ BitVec.ofBool s.common.batt ++ s.common.msgType ++ s.common.wspd ++
      s.common.wdir
  | 6#5 => BitVec.ofBool s.goldcap.valid ++ 0#21 ++ s.goldcap.raw
  | 7#5 => BitVec.ofBool s.rainRate.valid ++ 0#20 ++ BitVec.ofBool s.rainRate.mode ++ s.rainRate.raw
  | 8#5 => BitVec.ofBool s.solar.valid ++ 0#21 ++ s.solar.raw
  | 9#5 => BitVec.ofBool s.temp.valid ++ 0#15 ++ s.temp.raw
  | 10#5 => BitVec.ofBool s.gust.valid ++ 0#23 ++ s.gust.raw
  | 11#5 => BitVec.ofBool s.hum.valid ++ 0#19 ++ s.hum.raw
  | 12#5 => BitVec.ofBool s.rainClk.seeded ++ 0#16 ++ s.rainClk.diff ++ 0#1 ++ s.rainClk.count
  | 13#5 => s.rainDaily
  | 14#5 => s.rainTotal
  | _ => 0#32

/-- The output ports (R15). -/
structure Outputs where
  rdata : BitVec 32
  dbyte : Byte
deriving DecidableEq, Repr

/-- The outputs the block shows in a state for the pins `raddr` and `idx` (R15): `x[raddr]` and `MemRead(idx, 1)`. -/
def outputs (s : State) (raddr : BitVec 5) (idx : BitVec 8) : Outputs :=
  ⟨readReg s.toBlock raddr, memRead s.pkt idx⟩

end Sys2Proof.Machine
end

