-- ==== Sys2Proof/Machine/Values.lean ====
section
/-! DEFINITION. The engineering-value functions of 43_values.md: pure functions of the raw fields, exact rationals (R140);
and the Measurement set they give (R16). They are no registers and take no step. -/

namespace Sys2Proof.Machine

/-- `val_wind_speed(WSPD)`, km/h (R141). -/
def valWindSpeed (r : BitVec 8) : Rat := (r.toNat : Rat) * Config.kMph

/-- `val_wind_dir(WDIR)`, degrees (R142): `r * 360 / 255` rotated by 180 degrees into `[0, 360)`. -/
def valWindDir (r : BitVec 8) : Rat :=
  let a : Rat := (r.toNat : Rat) * 360 / 255
  if a < 180 then a + 180 else a - 180

/-- `val_goldcap(GOLDCAP)`, volts (R143). -/
def valGoldcap (g : BitVec 10) : Rat := (g.toNat : Rat) / 100

/-- `val_rain_clicks(mode, raw)`, clicks per hour (R144). No value where the formula would divide by zero: "A model must
not give `57600/0` or `3600/0` a value" (R119). -/
def valRainClicks (mode : Bool) (raw : BitVec 10) : Option Rat :=
  if raw.extractLsb' 0 8 = 0xFF#8 then some 0
  else if raw = 0#10 then none
  else if mode then some (3600 / (raw.toNat : Rat))
  else some (57600 / (raw.toNat : Rat))

/-- `val_rain_mm_h(mode, raw)`, millimetres per hour: one fifth of the clicks per hour (R144). -/
def valRainMmH (mode : Bool) (raw : BitVec 10) : Option Rat := (valRainClicks mode raw).map (· / 5)

/-- `val_solar(SOLAR)`, without a unit (R145). -/
def valSolar (s : BitVec 10) : Rat := (s.toNat : Rat)

/-- `val_temp(TEMP)`, degrees Celsius (R146): floor division by 160, then exact arithmetic; TEMP is unsigned. -/
def valTemp (t : BitVec 16) : Rat :=
  let q : Nat := t.toNat / 160
  let f : Int := (q : Int) - 32
  (f : Rat) * 5 / 9

/-- `val_gust(GUST)`, km/h (R147). -/
def valGust (r : BitVec 8) : Rat := (r.toNat : Rat) * Config.kMph

/-- `val_hum(HUM)`, percent relative humidity (R148); not clamped. -/
def valHum (h : BitVec 12) : Rat := (h.toNat : Rat) / 10

/-- `val_batt(BATT)`: the bit itself, 1 = warning present (R149). -/
def valBatt (b : Bool) : Bool := b

/-- `val_type(MSG_TYPE)`: the nibble itself (R149). -/
def valType (t : BitVec 4) : BitVec 4 := t

/-- `val_rain_mm(n)`, millimetres for `n` clicks (R150). -/
def valRainMm (n : Nat) : Rat := (n : Rat) / 5

/-- `ROUND(v)`: an exact value as an implementation delivers it (R140). -/
def delivered (v : Rat) : Rat := Config.round v

/-- The Measurement set (R16): the last-known values, `none` where the valid bit is 0, the source's "sentinel 'unknown'"
(R190). The rain totals have no valid bit (DEDUCED, log entry 15). The fields of RAINCLK are shown under RAIN_SEEDED, and
RAIN_DIFF is `none` before the first click packet (DESIGN CHOICE, log entry 17). -/
structure Measurements where
  windSpeed : Option Rat
  windDir : Option Rat
  batt : Option Bool
  msgType : Option (BitVec 4)
  goldcap : Option Rat
  rainClicksPerHour : Option Rat
  rainMmPerHour : Option Rat
  solar : Option Rat
  temp : Option Rat
  gust : Option Rat
  hum : Option Rat
  rainCount : Option (BitVec 7)
  rainDiff : Option Nat
  rainDailyClicks : Nat
  rainTotalClicks : Nat
  rainDiffMm : Option Rat
  rainDailyMm : Rat
  rainTotalMm : Rat
deriving DecidableEq, Repr

/-- A value that is meaningful only while its valid bit is 1 (R190). -/
def whenValid {α : Type} (valid : Bool) (v : α) : Option α := if valid then some v else none

/-- The exact Measurement set of a state (R16, R140 to R150). R24 calls RAIN_COUNT alone meaningless while RAIN_SEEDED is 0
and gives RAIN_DIFF its reset value 0; that RAIN_SEEDED stands as the valid bit of RAIN_DIFF too is the model's choice
(DESIGN CHOICE, log entry 17). -/
def measurements (s : Block) : Measurements where
  windSpeed := whenValid s.common.valid (valWindSpeed s.common.wspd)
  windDir := whenValid s.common.valid (valWindDir s.common.wdir)
  batt := whenValid s.common.valid (valBatt s.common.batt)
  msgType := whenValid s.common.valid (valType s.common.msgType)
  goldcap := whenValid s.goldcap.valid (valGoldcap s.goldcap.raw)
  rainClicksPerHour := if s.rainRate.valid then valRainClicks s.rainRate.mode s.rainRate.raw else none
  rainMmPerHour := if s.rainRate.valid then valRainMmH s.rainRate.mode s.rainRate.raw else none
  solar := whenValid s.solar.valid (valSolar s.solar.raw)
  temp := whenValid s.temp.valid (valTemp s.temp.raw)
  gust := whenValid s.gust.valid (valGust s.gust.raw)
  hum := whenValid s.hum.valid (valHum s.hum.raw)
  rainCount := whenValid s.rainClk.seeded s.rainClk.count
  rainDiff := whenValid s.rainClk.seeded s.rainClk.diff.toNat
  rainDailyClicks := s.rainDaily.toNat
  rainTotalClicks := s.rainTotal.toNat
  rainDiffMm := whenValid s.rainClk.seeded (valRainMm s.rainClk.diff.toNat)
  rainDailyMm := valRainMm s.rainDaily.toNat
  rainTotalMm := valRainMm s.rainTotal.toNat

/-- The Measurement set as an implementation delivers it: ROUND of every scaled value (R140). Bits, the message type and
counts of clicks are not scaled and pass unchanged. -/
def deliveredMeasurements (s : Block) : Measurements :=
  let m := measurements s
  { m with
    windSpeed := m.windSpeed.map delivered
    windDir := m.windDir.map delivered
    goldcap := m.goldcap.map delivered
    rainClicksPerHour := m.rainClicksPerHour.map delivered
    rainMmPerHour := m.rainMmPerHour.map delivered
    solar := m.solar.map delivered
    temp := m.temp.map delivered
    gust := m.gust.map delivered
    hum := m.hum.map delivered
    rainDiffMm := m.rainDiffMm.map delivered
    rainDailyMm := delivered m.rainDailyMm
    rainTotalMm := delivered m.rainTotalMm }

end Sys2Proof.Machine
end

