-- ==== Sys2Proof/Safety.lean ====
section
/-! DEFINITION. What claims are stated in terms of: the invariant of R27, runs of the block on a sequence of host inputs,
and the duties of the host that R192 lets a claim take as premises. -/

namespace Sys2Proof.Safety

open Sys2Proof.Machine

/-- The invariants of R27 that speak of one state. `EVENT in {NONE, SUCCESS, CRC_ERROR}` holds by the type of EVENT. -/
structure Inv (s : Block) : Prop where
  /-- `EVENT = SUCCESS implies CRC_VALID`. -/
  success_valid : s.status.event = .success → crcValid s.pkt = true
  /-- `EVENT = CRC_ERROR implies not CRC_VALID`. -/
  error_invalid : s.status.event = .crcError → crcValid s.pkt = false
  /-- `RAINRATE_V = 1 implies (RR_RAW[7:0] = 0xFF or RR_RAW != 0)`, so that `val_rain` is defined. -/
  rain_defined : s.rainRate.valid = true → s.rainRate.raw.extractLsb' 0 8 = 0xFF#8 ∨ s.rainRate.raw ≠ 0#10
  /-- `RR_RAW[7:0] = 0xFF or RR_RAW <= 0x3FE`. -/
  rain_range : s.rainRate.raw.extractLsb' 0 8 = 0xFF#8 ∨ s.rainRate.raw.toNat ≤ 0x3FE
  /-- `RAIN_SEEDED = 0 implies RAIN_DAILY = 0 and RAIN_TOTAL = 0 and RAIN_DIFF = 0`. -/
  unseeded_zero : s.rainClk.seeded = false → s.rainDaily = 0#32 ∧ s.rainTotal = 0#32 ∧ s.rainClk.diff = 0#7
  /-- `X_V = 0 implies X = 0`, for GOLDCAP. -/
  goldcap_zero : s.goldcap.valid = false → s.goldcap.raw = 0#10
  /-- `X_V = 0 implies X = 0`, for SOLAR. -/
  solar_zero : s.solar.valid = false → s.solar.raw = 0#10
  /-- `X_V = 0 implies X = 0`, for TEMP. -/
  temp_zero : s.temp.valid = false → s.temp.raw = 0#16
  /-- `X_V = 0 implies X = 0`, for GUST. -/
  gust_zero : s.gust.valid = false → s.gust.raw = 0#8
  /-- `X_V = 0 implies X = 0`, for HUM. -/
  hum_zero : s.hum.valid = false → s.hum.raw = 0#12
  /-- `COMMON_V = 0 implies MSG_TYPE = BATT = WSPD = WDIR = 0`. -/
  common_zero : s.common.valid = false → s.common = ⟨false, 0#4, false, 0#8, 0#8⟩
  /-- `DIV0 = 1 implies DECODED = 1`. -/
  div0_decoded : s.status.div0 = true → s.status.decoded = true

/-- The message type and the packet fields of a message-type instruction (R60). -/
def messageParts : Instr → Option (BitVec 4 × Fields)
  | .m0Ign f => some (0x0, f)
  | .m1Ign f => some (0x1, f)
  | .m2Goldcap f => some (0x2, f)
  | .m3Rsvd f => some (0x3, f)
  | .m4Ign f => some (0x4, f)
  | .m5Rainrate f => some (0x5, f)
  | .m6Ign f => some (0x6, f)
  | .m7Solar f => some (0x7, f)
  | .m8Temp f => some (0x8, f)
  | .m9Gust f => some (0x9, f)
  | .maHum f => some (0xA, f)
  | .mbIgn f => some (0xB, f)
  | .mcIgn f => some (0xC, f)
  | .mdIgn f => some (0xD, f)
  | .meRainclk f => some (0xE, f)
  | .mfIgn f => some (0xF, f)
  | .nop => none
  | .load _ => none
  | .loadr _ => none
  | .check => none
  | .decode => none
  | .process => none
  | .clrdaily => none
  | .rsvd7 => none
  | .reset => none

/-- Every result register and total of `t` is that of `s` (the Measurement set, R16). -/
structure SameResults (s t : Block) : Prop where
  common : t.common = s.common
  goldcap : t.goldcap = s.goldcap
  rainRate : t.rainRate = s.rainRate
  solar : t.solar = s.solar
  temp : t.temp = s.temp
  gust : t.gust = s.gust
  hum : t.hum = s.hum
  rainClk : t.rainClk = s.rainClk
  rainDaily : t.rainDaily = s.rainDaily
  rainTotal : t.rainTotal = s.rainTotal

/-- `p` and `q` differ at most in bits that R55 and R57 mark as unused for their message type, and in the wire CRC, which
the decoder does not read (R59, R113, R114). -/
structure SameUsedBits (p q : Packet) : Prop where
  type_eq : q.d0.extractLsb' 4 4 = p.d0.extractLsb' 4 4
  batt_eq : q.d0.getLsbD 3 = p.d0.getLsbD 3
  wspd_eq : q.d1 = p.d1
  wdir_eq : q.d2 = p.d2
  top10 : p.d0.extractLsb' 4 4 = 0x2#4 ∨ p.d0.extractLsb' 4 4 = 0x7#4 →
    q.d3 = p.d3 ∧ q.d4.extractLsb' 6 2 = p.d4.extractLsb' 6 2
  rain : p.d0.extractLsb' 4 4 = 0x5#4 → q.d3 = p.d3 ∧ q.d4.extractLsb' 4 3 = p.d4.extractLsb' 4 3
  word : p.d0.extractLsb' 4 4 = 0x8#4 → q.d3 = p.d3 ∧ q.d4 = p.d4
  byte : p.d0.extractLsb' 4 4 = 0x9#4 → q.d3 = p.d3
  low12 : p.d0.extractLsb' 4 4 = 0xA#4 → q.d3 = p.d3 ∧ q.d4.extractLsb' 4 4 = p.d4.extractLsb' 4 4
  cnt7 : p.d0.extractLsb' 4 4 = 0xE#4 → q.d3.extractLsb' 0 7 = p.d3.extractLsb' 0 7

/-- One step of the block on one sample of the ports: `step(s, rst, cmd, pkt_in)` of R80. -/
def stepOn (i : Input) (s : State) : Outcome := exec (decodeInput i) s

/-- A run of the block on a sequence of samples (R80). -/
def drive (s : State) : List Input → Outcome
  | [] => .next s
  | i :: is =>
    match stepOn i s with
    | .next t => drive t is
    | .fault r => .fault r
    | .refused r => .refused r

/-! ## Duties of the host (R192) -/

/-- "begin with a reset step" (R181, R182). -/
def beginsWithReset : List Input → Bool
  | [] => false
  | i :: _ => decodeInput i == .reset

/-- The host uses PROCESS only: it never presents DECODE (R186, R188). -/
def usesProcessOnly (is : List Input) : Bool := is.all fun i => decodeInput i != .decode

/-- "one PROCESS per loaded packet" (R185): after a PROCESS or DECODE, a LOAD, LOADR or reset comes before the next one.
`fresh` says whether the packet in PKT is still to be handled. -/
def oncePerLoad (fresh : Bool) : List Input → Bool
  | [] => true
  | i :: is =>
    match decodeInput i with
    | .load _ => oncePerLoad true is
    | .loadr _ => oncePerLoad true is
    | .reset => oncePerLoad false is
    | .process => fresh && oncePerLoad false is
    | .decode => fresh && oncePerLoad false is
    | _ => oncePerLoad fresh is

/-- "keep CHECK and DECODE of one packet together" (R186): every DECODE follows a CHECK or PROCESS with no LOAD, LOADR or
reset between. `checked` says whether the packet in PKT has been checked. -/
def checkedBeforeDecode (checked : Bool) : List Input → Bool
  | [] => true
  | i :: is =>
    match decodeInput i with
    | .load _ => checkedBeforeDecode false is
    | .loadr _ => checkedBeforeDecode false is
    | .reset => checkedBeforeDecode false is
    | .check => checkedBeforeDecode true is
    | .process => checkedBeforeDecode true is
    | .decode => checked && checkedBeforeDecode checked is
    | _ => checkedBeforeDecode checked is

/-- "use DECODE only on a packet whose EVENT is SUCCESS" (R188), along the run from `s`. -/
def decodesOnSuccess (s : State) : List Input → Bool
  | [] => true
  | i :: is =>
    (decodeInput i != .decode || s.status.event == .success) &&
      match stepOn i s with
      | .next t => decodesOnSuccess t is
      | .fault _ => true
      | .refused _ => true

end Sys2Proof.Safety
end

