-- ==== Sys2Proof/Certificates/Slice0/Obligations.lean ====
section
/-! DEFINITION. The statements for the provers. Each docstring names the rule of spec/ it formalises. -/

open Sys2Proof Sys2Proof.Machine Sys2Proof.Safety

/-! ## Reset -/

/-- R180: at a step with `rst = 1` the next state is `reset_state`, whatever `cmd`, `pkt_in` and the state are. -/
def Obligations.ResetStepReachesResetState : Prop :=
  (∀ (s : State) (c : BitVec 3) (w : PacketWord), decodeInput ⟨true, c, w⟩ = .reset ∧
    ∃ t, exec (decodeInput ⟨true, c, w⟩) s = .next t ∧ exec .reset s = .next t ∧
      t.toBlock =
        { pkt := ⟨0x00, 0x00, 0x00, 0x00, 0x00, 0x00, 0x00, 0x00⟩
          status := { event := .none, decoded := false, div0 := false, cmdErr := false }
          common := { valid := false, msgType := 0, batt := false, wspd := 0, wdir := 0 }
          goldcap := { valid := false, raw := 0 }
          rainRate := { valid := false, mode := false, raw := 0 }
          solar := { valid := false, raw := 0 }
          temp := { valid := false, raw := 0 }
          gust := { valid := false, raw := 0 }
          hum := { valid := false, raw := 0 }
          rainClk := { seeded := false, count := 0, diff := 0 }
          rainDaily := 0
          rainTotal := 0 })

/-- R31: every state element is zero after reset, and the derived outputs of R14 read as the all-zero PKT gives. -/
def Obligations.ResetStateIsAllZero : Prop :=
  (∀ i : BitVec 8, i.toNat < 8 → memRead State.reset.pkt i = 0x00) ∧
  State.reset.status = ⟨.none, false, false, false⟩ ∧ eventCode State.reset.status.event = 0 ∧
  State.reset.common = ⟨false, 0, false, 0, 0⟩ ∧
  State.reset.goldcap = ⟨false, 0⟩ ∧ State.reset.rainRate = ⟨false, false, 0⟩ ∧ State.reset.solar = ⟨false, 0⟩ ∧
  State.reset.temp = ⟨false, 0⟩ ∧ State.reset.gust = ⟨false, 0⟩ ∧ State.reset.hum = ⟨false, 0⟩ ∧
  State.reset.rainClk = ⟨false, 0, 0⟩ ∧ State.reset.rainDaily = 0 ∧ State.reset.rainTotal = 0 ∧
  crcCalc State.reset.pkt = 0x0000 ∧ crcWire State.reset.pkt = 0x0000 ∧ crcMatch State.reset.pkt = true ∧
  crcNonzero State.reset.pkt = false ∧ crcValid State.reset.pkt = false

/-! ## The host commands -/

/-- R81: NOP completes in every state and changes nothing; `pkt_in` is ignored. -/
def Obligations.NopChangesNothing : Prop :=
  ∀ (s : State) (w : PacketWord), exec .nop s = .next s ∧ exec (decodeInput ⟨false, 0, w⟩) s = .next s

/-- R82: LOAD stores byte `i` of the operand, `pkt_in[63-8i : 56-8i]`, in PKT[i], writes EVENT NONE, DECODED 0, DIV0 0,
and leaves CMD_ERR, every result register and every byte outside 0..7 (the sentinel) as they were. -/
def Obligations.LoadStoresTrueBytes : Prop :=
  ∀ (s : State) (w : PacketWord), ∃ p, exec (.load w) s =
      .next { s with pkt := p, status := { event := .none, decoded := false, div0 := false, cmdErr := s.status.cmdErr } } ∧
    (∀ i : BitVec 8, i.toNat < 8 → memRead p i = w.extractLsb' (56 - 8 * i.toNat) 8) ∧
    (∀ i : BitVec 8, 8 ≤ i.toNat → memRead p i = memRead s.pkt i)

/-- R83: LOADR stores in PKT[i] the bit reversal of byte `i` of the operand: bit `j` of PKT[i] is bit `7 - j` of
`pkt_in[63-8i : 56-8i]`. Otherwise as LOAD. -/
def Obligations.LoadrStoresReversedBytes : Prop :=
  ∀ (s : State) (w : PacketWord), ∃ p, exec (.loadr w) s =
      .next { s with pkt := p, status := { event := .none, decoded := false, div0 := false, cmdErr := s.status.cmdErr } } ∧
    (∀ i : BitVec 8, i.toNat < 8 → ∀ j < 8, (memRead p i).getLsbD j = w.getLsbD (56 - 8 * i.toNat + (7 - j))) ∧
    (∀ i : BitVec 8, 8 ≤ i.toNat → memRead p i = memRead s.pkt i)

/-- R44: `LOADR(w)` leaves the same state as `LOAD` of the word with each byte bit-reversed. -/
def Obligations.LoadrIsLoadOfReversedBytes : Prop :=
  ∀ (s : State) (w : PacketWord), exec (.loadr w) s = exec (.load (reverseEachByte (Packet.ofWord w)).toWord) s

/-- R43: `rev8`, bit by bit, as the sum of R43, and as an involution. -/
def Obligations.ByteReversalIsInvolution : Prop :=
  ∀ b : Byte, (∀ i < 8, (rev8 b).getLsbD i = b.getLsbD (7 - i)) ∧
    (rev8 b).toNat = ((List.range 8).map fun i => (b.getLsbD i).toNat * 2 ^ (7 - i)).sum ∧
    rev8 (rev8 b) = b

/-- R102: CRC_MATCH, CRC_NONZERO, CRC_VALID, and what CHECK and PROCESS record. -/
def Obligations.PacketValidityRule : Prop :=
  (∀ p : Packet,
    crcCalc p = crc16 [p.d0, p.d1, p.d2, p.d3, p.d4, p.d5] ∧
    (crcWire p).toNat = p.d6.toNat * 256 + p.d7.toNat ∧
    (crcMatch p = true ↔ crcCalc p = crcWire p) ∧
    (crcNonzero p = true ↔ crcCalc p ≠ 0x0000) ∧
    (crcValid p = true ↔ crcCalc p = crcWire p ∧ crcCalc p ≠ 0x0000)) ∧
  (∀ s : State, ∃ t u, exec .check s = .next t ∧ exec .process s = .next u ∧
    t.status.event = (if crcValid s.pkt then .success else .crcError) ∧
    u.status.event = (if crcValid s.pkt then .success else .crcError))

/-- R84: CHECK writes EVENT and nothing else; repeated, it gives the same EVENT; straight after reset it gives CRC_ERROR. -/
def Obligations.CheckRecordsValidity : Prop :=
  (∀ s : State, exec .check s =
    .next { s with status := { s.status with event := if crcValid s.pkt then .success else .crcError } }) ∧
  (∀ s t : State, exec .check s = .next t → exec .check t = .next t) ∧
  (∃ t, exec .check State.reset = .next t ∧ t.status.event = .crcError)

/-- R85: DECODE completes in every state and is the decoder run of the message type in PKT, whatever the CRC; PKT, EVENT
and CMD_ERR are not written; straight after reset it marks the common fields valid with type 0. -/
def Obligations.DecodeRunsMessageTypeInPkt : Prop :=
  (∀ s : State, exec .decode s = exec (decodePacket s.pkt) s ∧
    ∃ t, exec .decode s = .next t ∧ t.pkt = s.pkt ∧ t.status.event = s.status.event ∧
      t.status.cmdErr = s.status.cmdErr ∧ t.status.decoded = true) ∧
  exec .decode State.reset =
    .next { State.reset with
      status := { event := .none, decoded := true, div0 := false, cmdErr := false }
      common := { valid := true, msgType := 0, batt := false, wspd := 0, wdir := 0 } }

/-- R86: PROCESS is CHECK followed by DECODE when the packet is valid, and CHECK alone when it is not. -/
def Obligations.ProcessIsCheckThenDecode : Prop :=
  ∀ s : State,
    (crcValid s.pkt = true → ∃ t u, exec .check s = .next t ∧ exec .decode t = .next u ∧ exec .process s = .next u ∧
      u.status.event = .success ∧ u.status.decoded = true) ∧
    (crcValid s.pkt = false → exec .process s = exec .check s ∧
      exec .process s = .next { s with status := { s.status with event := .crcError } })

/-- R87: CLRDAILY completes in every state, clears RAIN_DAILY and writes nothing else; the next ME.RAINCLK packet still
computes its difference against the retained RAIN_COUNT. -/
def Obligations.ClrdailyClearsDailyTotalOnly : Prop :=
  ∀ s : State, exec .clrdaily s = .next { s with rainDaily := 0 } ∧
    ∀ f : Fields, ∃ u v, exec (.meRainclk f) s = .next u ∧ exec (.meRainclk f) { s with rainDaily := 0 } = .next v ∧
      v.rainClk = u.rainClk ∧ v.rainTotal = u.rainTotal ∧ v.rainDaily.toNat = v.rainClk.diff.toNat

/-- R88: the reserved code 7 completes in every state, sets CMD_ERR (bit 4 of read register 0) and writes nothing else;
only reset clears CMD_ERR. -/
def Obligations.ReservedCodeSetsCmdErr : Prop :=
  ∀ (s : State) (w : PacketWord),
    exec (decodeInput ⟨false, 7, w⟩) s = exec .rsvd7 s ∧
    exec .rsvd7 s = .next { s with status := { s.status with cmdErr := true } } ∧
    (readReg { s.toBlock with status := { s.status with cmdErr := true } } 0).getLsbD 4 = true ∧
    (s.status.cmdErr = true → ∀ i : Input, i.rst = false →
      ∃ t, exec (decodeInput i) s = .next t ∧ t.status.cmdErr = true) ∧
    (∃ t, exec .reset s = .next t ∧ t.status.cmdErr = false)

/-- R12, R88: CMD_ERR is set by no command but code 7 and cleared by nothing but reset. -/
def Obligations.CmdErrIsSticky : Prop :=
  ∀ (i : Input) (s : State), ∃ t, exec (decodeInput i) s = .next t ∧
    t.status.cmdErr = (!i.rst && (s.status.cmdErr || i.cmd == 7))

/-- R80: one sample of the ports selects one instruction, and every one has exactly one next state; no fault, no
refusal. -/
def Obligations.EveryInputHasNextState : Prop :=
  (∀ w : PacketWord,
    decodeInput ⟨false, 0, w⟩ = .nop ∧ decodeInput ⟨false, 1, w⟩ = .load w ∧ decodeInput ⟨false, 2, w⟩ = .loadr w ∧
    decodeInput ⟨false, 3, w⟩ = .check ∧ decodeInput ⟨false, 4, w⟩ = .decode ∧ decodeInput ⟨false, 5, w⟩ = .process ∧
    decodeInput ⟨false, 6, w⟩ = .clrdaily ∧ decodeInput ⟨false, 7, w⟩ = .rsvd7) ∧
  (∀ (c : BitVec 3) (w : PacketWord), decodeInput ⟨true, c, w⟩ = .reset) ∧
  (∀ (i : Input) (s : State), ∃ t, exec (decodeInput i) s = .next t)

/-- R89, the columns of the write-set table: what each command leaves unchanged. -/
def Obligations.CommandWriteSets : Prop :=
  ∀ s : State,
    (∃ t, exec .nop s = .next t ∧ t = s) ∧
    (∀ w, ∃ t, exec (.load w) s = .next t ∧ SameResults s.toBlock t.toBlock ∧
      t.status = { event := .none, decoded := false, div0 := false, cmdErr := s.status.cmdErr }) ∧
    (∀ w, ∃ t, exec (.loadr w) s = .next t ∧ SameResults s.toBlock t.toBlock ∧
      t.status = { event := .none, decoded := false, div0 := false, cmdErr := s.status.cmdErr }) ∧
    (∃ t, exec .check s = .next t ∧ SameResults s.toBlock t.toBlock ∧ (∀ a, memRead t.pkt a = memRead s.pkt a) ∧
      t.status.event ≠ .none ∧ t.status = { s.status with event := t.status.event }) ∧
    (∃ t, exec .decode s = .next t ∧ (∀ a, memRead t.pkt a = memRead s.pkt a) ∧ t.common.valid = true ∧
      t.status = { s.status with decoded := true, div0 := t.status.div0 }) ∧
    (∃ t, exec .process s = .next t ∧ (∀ a, memRead t.pkt a = memRead s.pkt a) ∧ t.status.event ≠ .none ∧
      t.status.cmdErr = s.status.cmdErr ∧
      (crcValid s.pkt = true → t.status.decoded = true ∧ t.common.valid = true) ∧
      (crcValid s.pkt = false → SameResults s.toBlock t.toBlock ∧
        t.status = { s.status with event := t.status.event })) ∧
    (∃ t, exec .clrdaily s = .next t ∧ t = { s with rainDaily := 0 }) ∧
    (∃ t, exec .rsvd7 s = .next t ∧ t = { s with status := { s.status with cmdErr := true } }) ∧
    (∃ t, exec .reset s = .next t ∧ t.toBlock = Block.reset)

/-- R45, R92: no instruction but LOAD, LOADR and reset changes a byte of PKT, read through the byte port. -/
def Obligations.OnlyLoadsAndResetWritePkt : Prop :=
  ∀ (i : Instr) (s t : State), exec i s = .next t → (∀ w, i ≠ .load w) → (∀ w, i ≠ .loadr w) → i ≠ .reset →
    ∀ a : BitVec 8, memRead t.pkt a = memRead s.pkt a

/-- R192: the result registers change only by a reset, by DECODE, by PROCESS on a valid packet, and by CLRDAILY (the daily
total alone). -/
def Obligations.ResultsChangeOnlyByDecoding : Prop :=
  ∀ (i : Input) (s t : State), exec (decodeInput i) s = .next t → ¬ SameResults s.toBlock t.toBlock →
    i.rst = true ∨ i.cmd = 4 ∨ (i.cmd = 5 ∧ crcValid s.pkt = true) ∨
      (i.cmd = 6 ∧ t.toBlock = { s.toBlock with rainDaily := 0 })

/-- R168: priorities inside one step. -/
def Obligations.PriorityInsideStep : Prop :=
  (∀ (i : Input) (s : State), i.rst = true → ∃ t, exec (decodeInput i) s = .next t ∧ t.toBlock = Block.reset) ∧
  (∀ s : State, crcValid s.pkt = false → ∃ t, exec .process s = .next t ∧ t.status.event = .crcError ∧
    t.status.div0 = s.status.div0) ∧
  (∀ s : State, crcValid s.pkt = true → s.pkt.msgType = 0x5 → s.pkt.d3 = 0x00 → s.pkt.d4.extractLsb' 4 2 = 0 →
    ∃ t, exec .process s = .next t ∧ t.status.event = .success ∧ t.status.div0 = true) ∧
  (∃ p : Packet, crcMatch p = false ∧ crcNonzero p = false) ∧
  (∀ s : State, s.pkt.d3 = 0xFF → ∃ t, exec .decode s = .next t ∧ t.status.div0 = false)

/-! ## The decoder -/

/-- R110: every message type completes in every state, writes the five common fields, sets DECODED, and leaves PKT, EVENT
and CMD_ERR; the fields are those of the packet. -/
def Obligations.EveryMessageTypeWritesCommonFields : Prop :=
  (∀ (i : Instr) (y : BitVec 4) (f : Fields) (s : State), messageParts i = some (y, f) → ∃ t, exec i s = .next t ∧
    t.common = { valid := true, msgType := y, batt := f.batt, wspd := f.wspd, wdir := f.wdir } ∧
    t.status.decoded = true ∧ t.pkt = s.pkt ∧ t.status.event = s.status.event ∧ t.status.cmdErr = s.status.cmdErr) ∧
  (∀ p : Packet, messageParts (decodePacket p) = some (p.d0.extractLsb' 4 4, p.fields) ∧
    p.fields.batt = p.d0.getLsbD 3 ∧ p.fields.wspd = p.d1 ∧ p.fields.wdir = p.d2)

/-- R111: a type-specific register other than the selected one keeps its raw field and its valid bit; PKT, EVENT and
CMD_ERR are kept too. -/
def Obligations.OtherResultRegistersAreKept : Prop :=
  ∀ (i : Instr) (y : BitVec 4) (f : Fields) (s t : State), messageParts i = some (y, f) → exec i s = .next t →
    (y ≠ 0x2 → t.goldcap = s.goldcap) ∧ (y ≠ 0x5 → t.rainRate = s.rainRate) ∧ (y ≠ 0x7 → t.solar = s.solar) ∧
    (y ≠ 0x8 → t.temp = s.temp) ∧ (y ≠ 0x9 → t.gust = s.gust) ∧ (y ≠ 0xA → t.hum = s.hum) ∧
    (y ≠ 0xE → t.rainClk = s.rainClk ∧ t.rainDaily = s.rainDaily ∧ t.rainTotal = s.rainTotal) ∧
    (y ≠ 0x5 → t.status.div0 = false) ∧
    (∀ a, memRead t.pkt a = memRead s.pkt a) ∧
    t.status.event = s.status.event ∧ t.status.cmdErr = s.status.cmdErr

/-- R125, R126: the nine types without output complete in every state and write the common fields, DECODED and DIV0 (= 0),
nothing else. -/
def Obligations.TypesWithoutOutputWriteCommonOnly : Prop :=
  ∀ (i : Instr) (y : BitVec 4) (f : Fields) (s : State),
    i = .m3Rsvd f ∧ y = 0x3 ∨ i = .m0Ign f ∧ y = 0x0 ∨ i = .m1Ign f ∧ y = 0x1 ∨ i = .m4Ign f ∧ y = 0x4 ∨
      i = .m6Ign f ∧ y = 0x6 ∨ i = .mbIgn f ∧ y = 0xB ∨ i = .mcIgn f ∧ y = 0xC ∨ i = .mdIgn f ∧ y = 0xD ∨
      i = .mfIgn f ∧ y = 0xF →
    exec i s = .next { s with
      status := { s.status with decoded := true, div0 := false }
      common := { valid := true, msgType := y, batt := f.batt, wspd := f.wspd, wdir := f.wdir } }

/-- R112: M2.GOLDCAP. -/
def Obligations.GoldcapResult : Prop :=
  ∀ (f : Fields) (s : State), ∃ v : BitVec 10, v.toNat = f.t3.toNat * 4 + f.t4.toNat / 64 ∧
    exec (.m2Goldcap f) s = .next { s with
      status := { s.status with decoded := true, div0 := false }
      common := { valid := true, msgType := 0x2, batt := f.batt, wspd := f.wspd, wdir := f.wdir }
      goldcap := { valid := true, raw := v } }

/-- R118: M5.RAINRATE, the storing case. -/
def Obligations.RainrateStores : Prop :=
  ∀ (f : Fields) (s : State), f.t3 = 255 ∨ f.t3.toNat + f.t4.toNat / 16 % 4 * 256 ≠ 0 →
    ∃ raw : BitVec 10, raw.toNat = f.t3.toNat + f.t4.toNat / 16 % 4 * 256 ∧
      exec (.m5Rainrate f) s = .next { s with
        status := { s.status with decoded := true, div0 := false }
        common := { valid := true, msgType := 0x5, batt := f.batt, wspd := f.wspd, wdir := f.wdir }
        rainRate := { valid := true, mode := f.t4.getLsbD 6, raw := raw } }

/-- R119: M5.RAINRATE, the zero divisor: RAINRATE is left unchanged and DIV0 is set; under PROCESS the EVENT is SUCCESS;
DIV0 lasts until the next LOAD, LOADR, reset or decoder run; the quotient has no value. -/
def Obligations.RainrateZeroDivisor : Prop :=
  (∀ (f : Fields) (s : State), f.t3 = 0x00 → f.t4.extractLsb' 4 2 = 0 →
    exec (.m5Rainrate f) s = .next { s with
      status := { s.status with decoded := true, div0 := true }
      common := { valid := true, msgType := 0x5, batt := f.batt, wspd := f.wspd, wdir := f.wdir } }) ∧
  (∀ s : State, crcValid s.pkt = true → s.pkt.msgType = 0x5 → s.pkt.d3 = 0x00 → s.pkt.d4.extractLsb' 4 2 = 0 →
    ∃ t, exec .process s = .next t ∧ t.status = { s.status with event := .success, decoded := true, div0 := true } ∧
      t.rainRate = s.rainRate ∧
      t.common = { valid := true, msgType := 0x5, batt := s.pkt.d0.getLsbD 3, wspd := s.pkt.d1, wdir := s.pkt.d2 }) ∧
  (∀ (i : Input) (s : State), s.status.div0 = true → i.rst = false → i.cmd = 0 ∨ i.cmd = 3 ∨ i.cmd = 6 ∨ i.cmd = 7 ∨
      i.cmd = 5 ∧ crcValid s.pkt = false →
    ∃ t, exec (decodeInput i) s = .next t ∧ t.status.div0 = true) ∧
  (∀ (i : Input) (s : State), i.rst = true ∨ i.cmd = 1 ∨ i.cmd = 2 →
    ∃ t, exec (decodeInput i) s = .next t ∧ t.status.div0 = false) ∧
  (∀ mode, valRainClicks mode 0 = none)

/-- R120: M7.SOLAR. -/
def Obligations.SolarResult : Prop :=
  ∀ (f : Fields) (s : State), ∃ v : BitVec 10, v.toNat = f.t3.toNat * 4 + f.t4.toNat / 64 ∧
    exec (.m7Solar f) s = .next { s with
      status := { s.status with decoded := true, div0 := false }
      common := { valid := true, msgType := 0x7, batt := f.batt, wspd := f.wspd, wdir := f.wdir }
      solar := { valid := true, raw := v } }

/-- R121: M8.TEMP. -/
def Obligations.TempResult : Prop :=
  ∀ (f : Fields) (s : State), ∃ v : BitVec 16, v.toNat = f.t3.toNat * 256 + f.t4.toNat ∧
    exec (.m8Temp f) s = .next { s with
      status := { s.status with decoded := true, div0 := false }
      common := { valid := true, msgType := 0x8, batt := f.batt, wspd := f.wspd, wdir := f.wdir }
      temp := { valid := true, raw := v } }

/-- R122: M9.GUST. -/
def Obligations.GustResult : Prop :=
  ∀ (f : Fields) (s : State), exec (.m9Gust f) s = .next { s with
    status := { s.status with decoded := true, div0 := false }
    common := { valid := true, msgType := 0x9, batt := f.batt, wspd := f.wspd, wdir := f.wdir }
    gust := { valid := true, raw := f.t3 } }

/-- R123: MA.HUM; values above 1000 are stored unchanged. -/
def Obligations.HumResult : Prop :=
  ∀ (f : Fields) (s : State), ∃ v : BitVec 12, v.toNat = f.t4.toNat / 16 * 256 + f.t3.toNat ∧
    exec (.maHum f) s = .next { s with
      status := { s.status with decoded := true, div0 := false }
      common := { valid := true, msgType := 0xA, batt := f.batt, wspd := f.wspd, wdir := f.wdir }
      hum := { valid := true, raw := v } }

/-- R124: ME.RAINCLK: the count, the modulo-128 difference, and both totals modulo `2^32`. -/
def Obligations.RainclkResult : Prop :=
  ∀ (f : Fields) (s : State), ∃ count diff : BitVec 7,
    count.toNat = f.t3.toNat % 128 ∧
    (s.rainClk.seeded = false → diff.toNat = 0) ∧
    (s.rainClk.seeded = true → s.rainClk.count.toNat ≤ count.toNat →
      diff.toNat = count.toNat - s.rainClk.count.toNat) ∧
    (s.rainClk.seeded = true → count.toNat < s.rainClk.count.toNat →
      diff.toNat = count.toNat + 128 - s.rainClk.count.toNat) ∧
    (s.rainClk.seeded = true → diff.toNat = (count.toNat + 128 - s.rainClk.count.toNat) % 128) ∧
    ∃ daily total : BitVec 32,
      daily.toNat = (s.rainDaily.toNat + diff.toNat) % 2 ^ 32 ∧
      total.toNat = (s.rainTotal.toNat + diff.toNat) % 2 ^ 32 ∧
      exec (.meRainclk f) s = .next { s with
        status := { s.status with decoded := true, div0 := false }
        common := { valid := true, msgType := 0xE, batt := f.batt, wspd := f.wspd, wdir := f.wdir }
        rainClk := { seeded := true, count := count, diff := diff }
        rainDaily := daily
        rainTotal := total }

/-- R58: the assembled value of every field, in numbers, and the source's printed expressions where they agree with it. -/
def Obligations.FieldAssembly : Prop :=
  ∀ p : Packet,
    p.msgType.toNat = p.d0.toNat / 16 ∧
    p.fields.batt.toNat = p.d0.toNat / 8 % 2 ∧
    p.fields.wspd = p.d1 ∧ p.fields.wdir = p.d2 ∧
    (goldcapField p.fields).toNat = p.d3.toNat * 4 + p.d4.toNat / 64 ∧
    (rainRawField p.fields).toNat = p.d3.toNat + p.d4.toNat / 16 % 4 * 256 ∧
    (rainRawField p.fields).toNat = p.d3.toNat + (p.d4 &&& 0x30#8).toNat * 16 ∧
    (rainModeField p.fields).toNat = p.d4.toNat / 64 % 2 ∧
    (solarField p.fields).toNat = p.d3.toNat * 4 + p.d4.toNat / 64 ∧
    (tempField p.fields).toNat = p.d3.toNat * 256 + p.d4.toNat ∧
    gustField p.fields = p.d3 ∧
    (humField p.fields).toNat = p.d4.toNat / 16 * 256 + p.d3.toNat ∧
    (countField p.fields).toNat = p.d3.toNat % 128 ∧
    (countField p.fields).toNat = (p.d3 &&& 0x7F#8).toNat ∧
    p.fields.wireCrc.toNat = p.d6.toNat * 256 + p.d7.toNat ∧
    (crcWire p).toNat = p.d6.toNat * 256 + p.d7.toNat

/-- R113: two packets that differ only in unused bits leave the same state after DECODE (apart from PKT itself). -/
def Obligations.UnusedBitsHaveNoEffect : Prop :=
  ∀ (s : State) (p q : Packet), SameUsedBits p q →
    ∃ t, exec .decode { s with pkt := p } = .next t ∧ exec .decode { s with pkt := q } = .next { t with pkt := q }

/-- R116: decoding the same PKT again repeats every write but RAIN_DIFF, which becomes 0. -/
def Obligations.DecodingAgainChangesOnlyRainDiff : Prop :=
  ∀ (s : State) (a b : Instr), a = .decode ∨ a = .process ∧ crcValid s.pkt = true →
    b = .decode ∨ b = .process ∧ crcValid s.pkt = true →
    ∃ t u, exec a s = .next t ∧ exec b t = .next u ∧
      u = { t with
        status := { t.status with event := u.status.event }
        rainClk :=
          if s.pkt.msgType = 0xE then { t.rainClk with diff := 0 } else t.rainClk } ∧
      (b = .decode → u.status.event = t.status.event) ∧ (b = .process → u.status.event = .success)

/-! ## The CRC -/

/-- R100: the pseudocode of `crc16`, byte by byte, and its bitwise form, which gives the same result for every input. -/
def Obligations.CrcBytewiseEqualsBitwise : Prop :=
  crc16 [] = 0x0000 ∧
  (∀ (bs : List Byte) (b : Byte), crc16 (bs ++ [b]) =
    (fun c : BitVec 16 => if c.getLsbD 15 then (c <<< 1) ^^^ 0x1021 else c <<< 1)^[8]
      (crc16 bs ^^^ (b.setWidth 16 <<< 8))) ∧
  (∀ bs : List Byte, crc16 bs =
    (bs.flatMap fun b => (List.range 8).map fun k => b.getLsbD (7 - k)).foldl
      (fun (c : BitVec 16) m => if c.getLsbD 15 ^^ m then (c <<< 1) ^^^ 0x1021 else c <<< 1) 0x0000) ∧
  (∀ bs : List Byte, crc16 bs = crc16Bitwise bs)

/-- R105: the residue of a sequence with its own CRC appended is zero, and for a whole packet it is zero exactly when
CRC_MATCH = 1. -/
def Obligations.CrcResidueIsZero : Prop :=
  (∀ m : List Byte, crc16 (m ++ [(crc16 m).extractLsb' 8 8, (crc16 m).extractLsb' 0 8]) = 0x0000) ∧
  (∀ p : Packet, crc16 [p.d0, p.d1, p.d2, p.d3, p.d4, p.d5, p.d6, p.d7] = 0x0000 ↔ crcMatch p = true)

/-- R106, first sentence: linearity. -/
def Obligations.CrcIsLinear : Prop :=
  ∀ a b : List Byte, a.length = b.length → crc16 (List.zipWith (· ^^^ ·) a b) = crc16 a ^^^ crc16 b

/-- R106, its consequence: any single-bit error in a valid packet turns it into an invalid one. -/
def Obligations.SingleBitErrorIsDetected : Prop :=
  ∀ (w : PacketWord) (k : Nat), k < 64 → crcValid (Packet.ofWord w) = true →
    crcValid (Packet.ofWord (w ^^^ (1#64 <<< k))) = false

/-- R107: embedding the computed CRC gives a valid packet exactly when it is nonzero. -/
def Obligations.SealedPacketIsValid : Prop :=
  ∀ m : SixBytes, (crcValid (sealPacket m) = true ↔ crc16 [m.b0, m.b1, m.b2, m.b3, m.b4, m.b5] ≠ 0x0000) ∧
    coveredBytes (sealPacket m) = [m.b0, m.b1, m.b2, m.b3, m.b4, m.b5]

/-- R103: the zero rule. A packet whose covered bytes have CRC 0 is invalid whatever its wire CRC, the all-zero packet
among them; for any `d0..d3` exactly one choice of `{d4, d5}` gives CRC 0, so there are `2^32` such sequences. -/
def Obligations.ZeroCrcIsNeverAccepted : Prop :=
  (∀ p : Packet, crcCalc p = 0x0000 → crcValid p = false ∧ ∀ s : State, s.pkt = p →
    ∃ t, exec .process s = .next t ∧ t.status.event = .crcError) ∧
  crcMatch ⟨0, 0, 0, 0, 0, 0, 0, 0⟩ = true ∧ crcValid ⟨0, 0, 0, 0, 0, 0, 0, 0⟩ = false ∧
  (∀ d0 d1 d2 d3 d4 d5 : Byte, crc16 [d0, d1, d2, d3, d4, d5] = 0x0000 ↔ d4 ++ d5 = crc16 [d0, d1, d2, d3])

/-! ## Ports and step -/

/-- R46: the byte port. -/
def Obligations.BytePort : Prop :=
  ∀ (s : State) (n : BitVec 5),
    (outputs s n 0).dbyte = s.pkt.d0 ∧ (outputs s n 1).dbyte = s.pkt.d1 ∧ (outputs s n 2).dbyte = s.pkt.d2 ∧
    (outputs s n 3).dbyte = s.pkt.d3 ∧ (outputs s n 4).dbyte = s.pkt.d4 ∧ (outputs s n 5).dbyte = s.pkt.d5 ∧
    (outputs s n 6).dbyte = s.pkt.d6 ∧ (outputs s n 7).dbyte = s.pkt.d7 ∧
    (∀ i : BitVec 8, 8 ≤ i.toNat → (outputs s n i).dbyte = 0xFF)

/-- R30: the read map, every bit of every word. -/
def Obligations.ReadMap : Prop :=
  ∀ (s : Block),
    (readReg s 0).toNat = (eventCode s.status.event).toNat + 2 ^ 2 * s.status.decoded.toNat +
      2 ^ 3 * s.status.div0.toNat + 2 ^ 4 * s.status.cmdErr.toNat + 2 ^ 8 * (crcMatch s.pkt).toNat +
      2 ^ 9 * (crcNonzero s.pkt).toNat + 2 ^ 10 * (crcValid s.pkt).toNat ∧
    (readReg s 1).toNat = (crcCalc s.pkt).toNat ∧
    (readReg s 2).toNat = (crcWire s.pkt).toNat ∧
    (readReg s 3).toNat = 2 ^ 24 * s.pkt.d0.toNat + 2 ^ 16 * s.pkt.d1.toNat + 2 ^ 8 * s.pkt.d2.toNat +
      s.pkt.d3.toNat ∧
    (readReg s 4).toNat = 2 ^ 24 * s.pkt.d4.toNat + 2 ^ 16 * s.pkt.d5.toNat + 2 ^ 8 * s.pkt.d6.toNat +
      s.pkt.d7.toNat ∧
    (readReg s 5).toNat = 2 ^ 31 * s.common.valid.toNat + 2 ^ 20 * s.common.batt.toNat +
      2 ^ 16 * s.common.msgType.toNat + 2 ^ 8 * s.common.wspd.toNat + s.common.wdir.toNat ∧
    (readReg s 6).toNat = 2 ^ 31 * s.goldcap.valid.toNat + s.goldcap.raw.toNat ∧
    (readReg s 7).toNat = 2 ^ 31 * s.rainRate.valid.toNat + 2 ^ 10 * s.rainRate.mode.toNat + s.rainRate.raw.toNat ∧
    (readReg s 8).toNat = 2 ^ 31 * s.solar.valid.toNat + s.solar.raw.toNat ∧
    (readReg s 9).toNat = 2 ^ 31 * s.temp.valid.toNat + s.temp.raw.toNat ∧
    (readReg s 10).toNat = 2 ^ 31 * s.gust.valid.toNat + s.gust.raw.toNat ∧
    (readReg s 11).toNat = 2 ^ 31 * s.hum.valid.toNat + s.hum.raw.toNat ∧
    (readReg s 12).toNat = 2 ^ 31 * s.rainClk.seeded.toNat + 2 ^ 8 * s.rainClk.diff.toNat +
      s.rainClk.count.toNat ∧
    readReg s 13 = s.rainDaily ∧ readReg s 14 = s.rainTotal ∧
    (∀ n : BitVec 5, 15 ≤ n.toNat → readReg s n = 0) ∧
    (∀ (t : State) (n : BitVec 5) (i : BitVec 8), t.toBlock = s → (outputs t n i).rdata = readReg s n)

/-- R80, R13. The queue `inputs` is the model's choice (log entry 1): a step runs exactly the instruction that the oldest
presented sample decodes to, on the state without that sample; with nothing presented it is NOP. -/
def Obligations.StepRunsPresentedInput : Prop :=
  (∀ (s : State) (i : Input) (rest : List Input), s.inputs = i :: rest →
    step s = exec (decodeInput i) { s with inputs := rest } ∧
    ∃ t, step s = .next t ∧ t.inputs = rest) ∧
  (∀ s : State, s.inputs = [] → step s = exec .nop s ∧ step s = .next s)

/-- The model's choice (log entries 2, 3): with a packet word put in place, the very next step runs the message-type
instruction it decodes to, on the state that holds the packet. -/
def Obligations.PlacedPacketWordRuns : Prop :=
  ∀ (s : State) (w : Nat), w < 2 ^ 64 →
    decodeTableWord 64 w = some (decodePacket (Packet.ofWord (BitVec.ofNat 64 w))) ∧
    step (s.withFetchWord 64 w) =
      exec (decodePacket (Packet.ofWord (BitVec.ofNat 64 w))) { s with pkt := Packet.ofWord (BitVec.ofNat 64 w) }

/-- R80, R50. A run of the machine on its queue of presented samples (the model's choice, log entry 1) is the run of the
block on that sequence of inputs; the block never looks at what the host will present later. -/
def Obligations.QueuedRunIsInputSequence : Prop :=
  ∀ (is : List Input) (s : State), ∃ t, drive { s with inputs := [] } is = .next t ∧
    ∀ later : List Input, Sys2Proof.core.run is.length { s with inputs := is ++ later } =
      .next { t with inputs := later }

/-! ## Encoding -/

/-- Words written out from R60, R70 and the test vectors decode to the instructions they stand for. -/
def Obligations.SampleWordsDecode : Prop :=
  decode (.packet 0x8000B2280200819C) = .m8Temp ⟨false, 0, 0x00, 0xB2, 0x28, 0x02, 0x00, 0x819C⟩ ∧
  decode (.packet 0x5B0A404040008B65) = .m5Rainrate ⟨true, 3, 0x0A, 0x40, 0x40, 0x40, 0x00, 0x8B65⟩ ∧
  decode (.packet 0xE00000FFFFFF5954) = .meRainclk ⟨false, 0, 0x00, 0x00, 0xFF, 0xFF, 0xFF, 0x5954⟩ ∧
  decode (.packet 0xF800000000009CFE) = .mfIgn ⟨true, 0, 0, 0, 0, 0, 0, 0x9CFE⟩ ∧
  decode (.ports ⟨false, 0b001, 0x8000B2280200819C⟩) = .load 0x8000B2280200819C ∧
  decode (.ports ⟨false, 0b101, 0⟩) = .process ∧
  decode (.ports ⟨true, 0b001, 5⟩) = .reset

/-- R55, R60, R70, R72: decoding the encoding of any instruction gives it back, every operand at every value. -/
def Obligations.DecodeEncodeRoundTrip : Prop :=
  ∀ i : Instr, i.wf = true → decode (encode i) = i

/-- R60, R70: encoding the decoding of any canonical code gives it back; every 64-bit word is one, so no bit of a packet
word is dropped, and its top four bits are the message type. -/
def Obligations.EncodeDecodeRoundTrip : Prop :=
  (∀ c : Code, c.canonical = true → encode (decode c) = c) ∧
  (∀ w : PacketWord, encode (decode (.packet w)) = .packet w ∧
    ∃ f, messageParts (decode (.packet w)) = some (w.extractLsb' 60 4, f))

/-- R73: reading the line encoding of a canonical sample gives it back. -/
def Obligations.LineEncodingRoundTrip : Prop :=
  ∀ i : Input, i.canonical = true → decodeLine (encodeLine i) = .ok i

/-- R74: the packet mnemonics are inverse to the field assembly of R58, and RECV, RECVR, VERIFY expand as R74 says. -/
def Obligations.PacketMnemonicsInvertAssembly : Prop :=
  (∀ (batt : Bool) (s d : Byte),
    (∀ g, ∃ f, decodePacket (sealPacket (mkGoldcap batt s d g)) = .m2Goldcap f ∧ goldcapField f = g ∧
      f.batt = batt ∧ f.wspd = s ∧ f.wdir = d) ∧
    (∀ m r, ∃ f, decodePacket (sealPacket (mkRainrate batt s d m r)) = .m5Rainrate f ∧ rainRawField f = r ∧
      rainModeField f = m ∧ f.batt = batt ∧ f.wspd = s ∧ f.wdir = d) ∧
    (∀ v, ∃ f, decodePacket (sealPacket (mkSolar batt s d v)) = .m7Solar f ∧ solarField f = v ∧
      f.batt = batt ∧ f.wspd = s ∧ f.wdir = d) ∧
    (∀ v, ∃ f, decodePacket (sealPacket (mkTemp batt s d v)) = .m8Temp f ∧ tempField f = v ∧
      f.batt = batt ∧ f.wspd = s ∧ f.wdir = d) ∧
    (∀ v, ∃ f, decodePacket (sealPacket (mkGust batt s d v)) = .m9Gust f ∧ gustField f = v ∧
      f.batt = batt ∧ f.wspd = s ∧ f.wdir = d) ∧
    (∀ v, ∃ f, decodePacket (sealPacket (mkHum batt s d v)) = .maHum f ∧ humField f = v ∧
      f.batt = batt ∧ f.wspd = s ∧ f.wdir = d) ∧
    (∀ v, ∃ f, decodePacket (sealPacket (mkRainclk batt s d v)) = .meRainclk f ∧ countField f = v ∧
      f.batt = batt ∧ f.wspd = s ∧ f.wdir = d)) ∧
  (∀ m : SixBytes, crcMatch (sealPacket m) = true) ∧
  (∀ w : PacketWord, (recv w).map decodeInput = [.load w, .process] ∧
    (recvr w).map decodeInput = [.loadr w, .process] ∧ verify.map decodeInput = [.check])

/-! ## Invariants and whole-machine rules -/

/-- R27 holds at reset. -/
def Obligations.InvariantHoldsAtReset : Prop := Inv State.reset.toBlock

/-- R27: every step keeps the invariant. -/
def Obligations.StepKeepsInvariant : Prop :=
  ∀ s t : State, Inv s.toBlock → step s = .next t → Inv t.toBlock

/-- R27: RAIN_DAILY <= RAIN_TOTAL is kept by every step in which RAIN_TOTAL cannot wrap past `2^32`. -/
def Obligations.DailyAtMostTotalUntilWrap : Prop :=
  ∀ s t : State, s.rainDaily.toNat ≤ s.rainTotal.toNat → s.rainTotal.toNat + 127 < 2 ^ 32 → step s = .next t →
    t.rainDaily.toNat ≤ t.rainTotal.toNat

/-- R188, R192: when the host decodes only on EVENT = SUCCESS, a packet marked decoded is a checked, valid one. -/
def Obligations.GatedHostDecodesOnlyValidPackets : Prop :=
  ∀ (is : List Input) (s t : State), Inv s.toBlock → (s.status.decoded = true → s.status.event = .success) →
    decodesOnSuccess s is = true → drive s is = .next t →
    (t.status.decoded = true → t.status.event = .success ∧ crcValid t.pkt = true)

/-- R86, R186, R188: every sample but DECODE keeps the invariant of R27 together with "DECODED = 1 implies EVENT =
SUCCESS", and leaves a packet marked decoded checked and valid; so does every run of a host that uses PROCESS only. -/
def Obligations.ProcessOnlyHostIsGated : Prop :=
  (∀ (i : Input) (s : State), Inv s.toBlock → (s.status.decoded = true → s.status.event = .success) →
    decodeInput i ≠ .decode → ∃ t, stepOn i s = .next t ∧ Inv t.toBlock ∧
      (t.status.decoded = true → t.status.event = .success ∧ crcValid t.pkt = true)) ∧
  (∀ (is : List Input) (s : State), Inv s.toBlock → (s.status.decoded = true → s.status.event = .success) →
    usesProcessOnly is = true → ∃ t, drive s is = .next t ∧ Inv t.toBlock ∧
      (t.status.decoded = true → t.status.event = .success ∧ crcValid t.pkt = true))

/-! ## Engineering values -/

/-- R144, R27: in every state of the invariant a valid rain rate has a value. -/
def Obligations.ValidRainRateHasValue : Prop :=
  ∀ s : Block, Inv s → s.rainRate.valid = true →
    ∃ v, valRainClicks s.rainRate.mode s.rainRate.raw = some v ∧
      (measurements s).rainClicksPerHour = some v ∧ (measurements s).rainMmPerHour = some (v / 5)

/-- R144: the rain-rate value and its range. -/
def Obligations.RainRateValue : Prop :=
  ∀ (mode : Bool) (raw : BitVec 10),
    valRainClicks mode 0 = none ∧ valRainMmH mode 0 = none ∧
    (raw.toNat % 256 = 255 → valRainClicks mode raw = some 0 ∧ valRainMmH mode raw = some 0) ∧
    (raw.toNat % 256 ≠ 255 → raw ≠ 0 → ∃ c, valRainClicks mode raw = some c ∧ valRainMmH mode raw = some (c / 5) ∧
      c * raw.toNat = (if mode then 3600 else 57600) ∧
      (mode = false → (28800 / 511 : Rat) ≤ c ∧ c ≤ 57600) ∧ (mode = true → (1800 / 511 : Rat) ≤ c ∧ c ≤ 3600) ∧
      c / 5 ≤ 11520)

/-- R142: the wind direction, its modular form and its range. -/
def Obligations.WindDirectionValue : Prop :=
  ∀ r : BitVec 8,
    valWindDir r = (((r.toNat * 24 + 3060) % 6120 : Nat) : Rat) / 17 ∧
    (r.toNat ≤ 127 → valWindDir r = (r.toNat : Rat) * 24 / 17 + 180) ∧
    (128 ≤ r.toNat → valWindDir r = (r.toNat : Rat) * 24 / 17 - 180) ∧
    (12 / 17 : Rat) ≤ valWindDir r ∧ valWindDir r ≤ (6108 / 17 : Rat) ∧ (r.toNat : Rat) * 360 / 255 ≠ 180 ∧
    (r.toNat = 0 ∨ r.toNat = 255 → valWindDir r = 180)

/-- R146: the temperature: floor division by 160, exact multiplication by 5/9, and its range. -/
def Obligations.TemperatureValue : Prop :=
  ∀ t : BitVec 16, ∃ q : Nat, q * 160 ≤ t.toNat ∧ t.toNat < (q + 1) * 160 ∧
    valTemp t = ((q : Rat) - 32) * 5 / 9 ∧
    (-160 / 9 : Rat) ≤ valTemp t ∧ valTemp t ≤ (1885 / 9 : Rat) ∧
    (valTemp t = 0 ↔ 5120 ≤ t.toNat ∧ t.toNat ≤ 5279)

/-- R141, R143, R145, R147, R148, R150: the linear values and their ranges. -/
def Obligations.LinearValues : Prop :=
  (∀ r : BitVec 8, valWindSpeed r = (r.toNat : Rat) * 160934 / 100000 ∧ 0 ≤ valWindSpeed r ∧
    valWindSpeed r ≤ 4103817 / 10000 ∧ valGust r = valWindSpeed r) ∧
  (∀ g : BitVec 10, valGoldcap g = (g.toNat : Rat) / 100 ∧ 0 ≤ valGoldcap g ∧ valGoldcap g ≤ 1023 / 100) ∧
  (∀ v : BitVec 10, valSolar v = (v.toNat : Rat)) ∧
  (∀ h : BitVec 12, valHum h = (h.toNat : Rat) / 10 ∧ 0 ≤ valHum h ∧ valHum h ≤ 4095 / 10) ∧
  (∀ n : Nat, valRainMm n = (n : Rat) / 5)

/-- R16, R140 to R150, R190. In every state of the invariant a value of the Measurement set is absent exactly while its
valid bit is 0 (the model's choice, log entry 15; for RAIN_COUNT and RAIN_DIFF under RAIN_SEEDED log entry 17), and while it
is 1 the value is the `val_*` function of that register's raw field. The two totals are always given. An implementation
delivers ROUND of the scaled values (log entry 6: nothing is assumed of ROUND). -/
def Obligations.UnknownExactlyWhileInvalid : Prop :=
  ∀ s : Block, Inv s →
    ((measurements s).windSpeed = none ↔ s.common.valid = false) ∧
    ((measurements s).windDir = none ↔ s.common.valid = false) ∧
    ((measurements s).batt = none ↔ s.common.valid = false) ∧
    ((measurements s).msgType = none ↔ s.common.valid = false) ∧
    ((measurements s).goldcap = none ↔ s.goldcap.valid = false) ∧
    ((measurements s).rainClicksPerHour = none ↔ s.rainRate.valid = false) ∧
    ((measurements s).rainMmPerHour = none ↔ s.rainRate.valid = false) ∧
    ((measurements s).solar = none ↔ s.solar.valid = false) ∧
    ((measurements s).temp = none ↔ s.temp.valid = false) ∧
    ((measurements s).gust = none ↔ s.gust.valid = false) ∧
    ((measurements s).hum = none ↔ s.hum.valid = false) ∧
    ((measurements s).rainCount = none ↔ s.rainClk.seeded = false) ∧
    ((measurements s).rainDiff = none ↔ s.rainClk.seeded = false) ∧
    ((measurements s).rainDiffMm = none ↔ s.rainClk.seeded = false) ∧
    (s.common.valid = true →
      (measurements s).windSpeed = some (valWindSpeed s.common.wspd) ∧
      (measurements s).windDir = some (valWindDir s.common.wdir) ∧
      (measurements s).batt = some s.common.batt ∧ (measurements s).msgType = some s.common.msgType) ∧
    (s.goldcap.valid = true → (measurements s).goldcap = some (valGoldcap s.goldcap.raw)) ∧
    (s.rainRate.valid = true → ∃ v, valRainClicks s.rainRate.mode s.rainRate.raw = some v ∧
      (measurements s).rainClicksPerHour = some v ∧ (measurements s).rainMmPerHour = some (v / 5)) ∧
    (s.solar.valid = true → (measurements s).solar = some (valSolar s.solar.raw)) ∧
    (s.temp.valid = true → (measurements s).temp = some (valTemp s.temp.raw)) ∧
    (s.gust.valid = true → (measurements s).gust = some (valGust s.gust.raw)) ∧
    (s.hum.valid = true → (measurements s).hum = some (valHum s.hum.raw)) ∧
    (s.rainClk.seeded = true → (measurements s).rainCount = some s.rainClk.count ∧
      (measurements s).rainDiff = some s.rainClk.diff.toNat ∧
      (measurements s).rainDiffMm = some ((s.rainClk.diff.toNat : Rat) / 5)) ∧
    (measurements s).rainDailyClicks = s.rainDaily.toNat ∧ (measurements s).rainTotalClicks = s.rainTotal.toNat ∧
    (measurements s).rainDailyMm = (s.rainDaily.toNat : Rat) / 5 ∧
    (measurements s).rainTotalMm = (s.rainTotal.toNat : Rat) / 5 ∧
    deliveredMeasurements s = { measurements s with
      windSpeed := (measurements s).windSpeed.map Config.round
      windDir := (measurements s).windDir.map Config.round
      goldcap := (measurements s).goldcap.map Config.round
      rainClicksPerHour := (measurements s).rainClicksPerHour.map Config.round
      rainMmPerHour := (measurements s).rainMmPerHour.map Config.round
      solar := (measurements s).solar.map Config.round
      temp := (measurements s).temp.map Config.round
      gust := (measurements s).gust.map Config.round
      hum := (measurements s).hum.map Config.round
      rainDiffMm := (measurements s).rainDiffMm.map Config.round
      rainDailyMm := Config.round (measurements s).rainDailyMm
      rainTotalMm := Config.round (measurements s).rainTotalMm }
end

