-- ==== Sys2Proof/Laws/State.lean ====
section
/-! SUPPORT. One lemma per field per update of the state, each true by `rfl`. -/

namespace Sys2Proof.Machine

variable (s : State)

/-! ### storePacket -/

@[simp] theorem storePacket_pkt (p : Packet) : (storePacket p s).pkt = p := rfl
@[simp] theorem storePacket_status (p : Packet) : (storePacket p s).status = ⟨.none, false, false, s.status.cmdErr⟩ := rfl
@[simp] theorem storePacket_common (p : Packet) : (storePacket p s).common = s.common := rfl
@[simp] theorem storePacket_goldcap (p : Packet) : (storePacket p s).goldcap = s.goldcap := rfl
@[simp] theorem storePacket_rainRate (p : Packet) : (storePacket p s).rainRate = s.rainRate := rfl
@[simp] theorem storePacket_solar (p : Packet) : (storePacket p s).solar = s.solar := rfl
@[simp] theorem storePacket_temp (p : Packet) : (storePacket p s).temp = s.temp := rfl
@[simp] theorem storePacket_gust (p : Packet) : (storePacket p s).gust = s.gust := rfl
@[simp] theorem storePacket_hum (p : Packet) : (storePacket p s).hum = s.hum := rfl
@[simp] theorem storePacket_rainClk (p : Packet) : (storePacket p s).rainClk = s.rainClk := rfl
@[simp] theorem storePacket_rainDaily (p : Packet) : (storePacket p s).rainDaily = s.rainDaily := rfl
@[simp] theorem storePacket_rainTotal (p : Packet) : (storePacket p s).rainTotal = s.rainTotal := rfl
@[simp] theorem storePacket_inputs (p : Packet) : (storePacket p s).inputs = s.inputs := rfl

/-! ### setEvent -/

@[simp] theorem setEvent_pkt (e : Event) : (setEvent e s).pkt = s.pkt := rfl
@[simp] theorem setEvent_status (e : Event) : (setEvent e s).status = { s.status with event := e } := rfl
@[simp] theorem setEvent_common (e : Event) : (setEvent e s).common = s.common := rfl
@[simp] theorem setEvent_goldcap (e : Event) : (setEvent e s).goldcap = s.goldcap := rfl
@[simp] theorem setEvent_rainRate (e : Event) : (setEvent e s).rainRate = s.rainRate := rfl
@[simp] theorem setEvent_solar (e : Event) : (setEvent e s).solar = s.solar := rfl
@[simp] theorem setEvent_temp (e : Event) : (setEvent e s).temp = s.temp := rfl
@[simp] theorem setEvent_gust (e : Event) : (setEvent e s).gust = s.gust := rfl
@[simp] theorem setEvent_hum (e : Event) : (setEvent e s).hum = s.hum := rfl
@[simp] theorem setEvent_rainClk (e : Event) : (setEvent e s).rainClk = s.rainClk := rfl
@[simp] theorem setEvent_rainDaily (e : Event) : (setEvent e s).rainDaily = s.rainDaily := rfl
@[simp] theorem setEvent_rainTotal (e : Event) : (setEvent e s).rainTotal = s.rainTotal := rfl
@[simp] theorem setEvent_inputs (e : Event) : (setEvent e s).inputs = s.inputs := rfl

/-! ### setDiv0 -/

@[simp] theorem setDiv0_pkt : (setDiv0 s).pkt = s.pkt := rfl
@[simp] theorem setDiv0_status : (setDiv0 s).status = { s.status with div0 := true } := rfl
@[simp] theorem setDiv0_common : (setDiv0 s).common = s.common := rfl
@[simp] theorem setDiv0_goldcap : (setDiv0 s).goldcap = s.goldcap := rfl
@[simp] theorem setDiv0_rainRate : (setDiv0 s).rainRate = s.rainRate := rfl
@[simp] theorem setDiv0_solar : (setDiv0 s).solar = s.solar := rfl
@[simp] theorem setDiv0_temp : (setDiv0 s).temp = s.temp := rfl
@[simp] theorem setDiv0_gust : (setDiv0 s).gust = s.gust := rfl
@[simp] theorem setDiv0_hum : (setDiv0 s).hum = s.hum := rfl
@[simp] theorem setDiv0_rainClk : (setDiv0 s).rainClk = s.rainClk := rfl
@[simp] theorem setDiv0_rainDaily : (setDiv0 s).rainDaily = s.rainDaily := rfl
@[simp] theorem setDiv0_rainTotal : (setDiv0 s).rainTotal = s.rainTotal := rfl
@[simp] theorem setDiv0_inputs : (setDiv0 s).inputs = s.inputs := rfl

/-! ### setCmdErr -/

@[simp] theorem setCmdErr_pkt : (setCmdErr s).pkt = s.pkt := rfl
@[simp] theorem setCmdErr_status : (setCmdErr s).status = { s.status with cmdErr := true } := rfl
@[simp] theorem setCmdErr_common : (setCmdErr s).common = s.common := rfl
@[simp] theorem setCmdErr_goldcap : (setCmdErr s).goldcap = s.goldcap := rfl
@[simp] theorem setCmdErr_rainRate : (setCmdErr s).rainRate = s.rainRate := rfl
@[simp] theorem setCmdErr_solar : (setCmdErr s).solar = s.solar := rfl
@[simp] theorem setCmdErr_temp : (setCmdErr s).temp = s.temp := rfl
@[simp] theorem setCmdErr_gust : (setCmdErr s).gust = s.gust := rfl
@[simp] theorem setCmdErr_hum : (setCmdErr s).hum = s.hum := rfl
@[simp] theorem setCmdErr_rainClk : (setCmdErr s).rainClk = s.rainClk := rfl
@[simp] theorem setCmdErr_rainDaily : (setCmdErr s).rainDaily = s.rainDaily := rfl
@[simp] theorem setCmdErr_rainTotal : (setCmdErr s).rainTotal = s.rainTotal := rfl
@[simp] theorem setCmdErr_inputs : (setCmdErr s).inputs = s.inputs := rfl

/-! ### beginRun -/

@[simp] theorem beginRun_pkt (y : BitVec 4) (f : Fields) : (beginRun y f s).pkt = s.pkt := rfl
@[simp] theorem beginRun_status (y : BitVec 4) (f : Fields) : (beginRun y f s).status = { s.status with decoded := true, div0 := false } := rfl
@[simp] theorem beginRun_common (y : BitVec 4) (f : Fields) : (beginRun y f s).common = ⟨true, y, f.batt, f.wspd, f.wdir⟩ := rfl
@[simp] theorem beginRun_goldcap (y : BitVec 4) (f : Fields) : (beginRun y f s).goldcap = s.goldcap := rfl
@[simp] theorem beginRun_rainRate (y : BitVec 4) (f : Fields) : (beginRun y f s).rainRate = s.rainRate := rfl
@[simp] theorem beginRun_solar (y : BitVec 4) (f : Fields) : (beginRun y f s).solar = s.solar := rfl
@[simp] theorem beginRun_temp (y : BitVec 4) (f : Fields) : (beginRun y f s).temp = s.temp := rfl
@[simp] theorem beginRun_gust (y : BitVec 4) (f : Fields) : (beginRun y f s).gust = s.gust := rfl
@[simp] theorem beginRun_hum (y : BitVec 4) (f : Fields) : (beginRun y f s).hum = s.hum := rfl
@[simp] theorem beginRun_rainClk (y : BitVec 4) (f : Fields) : (beginRun y f s).rainClk = s.rainClk := rfl
@[simp] theorem beginRun_rainDaily (y : BitVec 4) (f : Fields) : (beginRun y f s).rainDaily = s.rainDaily := rfl
@[simp] theorem beginRun_rainTotal (y : BitVec 4) (f : Fields) : (beginRun y f s).rainTotal = s.rainTotal := rfl
@[simp] theorem beginRun_inputs (y : BitVec 4) (f : Fields) : (beginRun y f s).inputs = s.inputs := rfl

/-! ### writeGoldcap -/

@[simp] theorem writeGoldcap_pkt (v : BitVec 10) : (writeGoldcap v s).pkt = s.pkt := rfl
@[simp] theorem writeGoldcap_status (v : BitVec 10) : (writeGoldcap v s).status = s.status := rfl
@[simp] theorem writeGoldcap_common (v : BitVec 10) : (writeGoldcap v s).common = s.common := rfl
@[simp] theorem writeGoldcap_goldcap (v : BitVec 10) : (writeGoldcap v s).goldcap = ⟨true, v⟩ := rfl
@[simp] theorem writeGoldcap_rainRate (v : BitVec 10) : (writeGoldcap v s).rainRate = s.rainRate := rfl
@[simp] theorem writeGoldcap_solar (v : BitVec 10) : (writeGoldcap v s).solar = s.solar := rfl
@[simp] theorem writeGoldcap_temp (v : BitVec 10) : (writeGoldcap v s).temp = s.temp := rfl
@[simp] theorem writeGoldcap_gust (v : BitVec 10) : (writeGoldcap v s).gust = s.gust := rfl
@[simp] theorem writeGoldcap_hum (v : BitVec 10) : (writeGoldcap v s).hum = s.hum := rfl
@[simp] theorem writeGoldcap_rainClk (v : BitVec 10) : (writeGoldcap v s).rainClk = s.rainClk := rfl
@[simp] theorem writeGoldcap_rainDaily (v : BitVec 10) : (writeGoldcap v s).rainDaily = s.rainDaily := rfl
@[simp] theorem writeGoldcap_rainTotal (v : BitVec 10) : (writeGoldcap v s).rainTotal = s.rainTotal := rfl
@[simp] theorem writeGoldcap_inputs (v : BitVec 10) : (writeGoldcap v s).inputs = s.inputs := rfl

/-! ### writeRainRate -/

@[simp] theorem writeRainRate_pkt (m : Bool) (v : BitVec 10) : (writeRainRate m v s).pkt = s.pkt := rfl
@[simp] theorem writeRainRate_status (m : Bool) (v : BitVec 10) : (writeRainRate m v s).status = s.status := rfl
@[simp] theorem writeRainRate_common (m : Bool) (v : BitVec 10) : (writeRainRate m v s).common = s.common := rfl
@[simp] theorem writeRainRate_goldcap (m : Bool) (v : BitVec 10) : (writeRainRate m v s).goldcap = s.goldcap := rfl
@[simp] theorem writeRainRate_rainRate (m : Bool) (v : BitVec 10) : (writeRainRate m v s).rainRate = ⟨true, m, v⟩ := rfl
@[simp] theorem writeRainRate_solar (m : Bool) (v : BitVec 10) : (writeRainRate m v s).solar = s.solar := rfl
@[simp] theorem writeRainRate_temp (m : Bool) (v : BitVec 10) : (writeRainRate m v s).temp = s.temp := rfl
@[simp] theorem writeRainRate_gust (m : Bool) (v : BitVec 10) : (writeRainRate m v s).gust = s.gust := rfl
@[simp] theorem writeRainRate_hum (m : Bool) (v : BitVec 10) : (writeRainRate m v s).hum = s.hum := rfl
@[simp] theorem writeRainRate_rainClk (m : Bool) (v : BitVec 10) : (writeRainRate m v s).rainClk = s.rainClk := rfl
@[simp] theorem writeRainRate_rainDaily (m : Bool) (v : BitVec 10) : (writeRainRate m v s).rainDaily = s.rainDaily := rfl
@[simp] theorem writeRainRate_rainTotal (m : Bool) (v : BitVec 10) : (writeRainRate m v s).rainTotal = s.rainTotal := rfl
@[simp] theorem writeRainRate_inputs (m : Bool) (v : BitVec 10) : (writeRainRate m v s).inputs = s.inputs := rfl

/-! ### writeSolar -/

@[simp] theorem writeSolar_pkt (v : BitVec 10) : (writeSolar v s).pkt = s.pkt := rfl
@[simp] theorem writeSolar_status (v : BitVec 10) : (writeSolar v s).status = s.status := rfl
@[simp] theorem writeSolar_common (v : BitVec 10) : (writeSolar v s).common = s.common := rfl
@[simp] theorem writeSolar_goldcap (v : BitVec 10) : (writeSolar v s).goldcap = s.goldcap := rfl
@[simp] theorem writeSolar_rainRate (v : BitVec 10) : (writeSolar v s).rainRate = s.rainRate := rfl
@[simp] theorem writeSolar_solar (v : BitVec 10) : (writeSolar v s).solar = ⟨true, v⟩ := rfl
@[simp] theorem writeSolar_temp (v : BitVec 10) : (writeSolar v s).temp = s.temp := rfl
@[simp] theorem writeSolar_gust (v : BitVec 10) : (writeSolar v s).gust = s.gust := rfl
@[simp] theorem writeSolar_hum (v : BitVec 10) : (writeSolar v s).hum = s.hum := rfl
@[simp] theorem writeSolar_rainClk (v : BitVec 10) : (writeSolar v s).rainClk = s.rainClk := rfl
@[simp] theorem writeSolar_rainDaily (v : BitVec 10) : (writeSolar v s).rainDaily = s.rainDaily := rfl
@[simp] theorem writeSolar_rainTotal (v : BitVec 10) : (writeSolar v s).rainTotal = s.rainTotal := rfl
@[simp] theorem writeSolar_inputs (v : BitVec 10) : (writeSolar v s).inputs = s.inputs := rfl

/-! ### writeTemp -/

@[simp] theorem writeTemp_pkt (v : BitVec 16) : (writeTemp v s).pkt = s.pkt := rfl
@[simp] theorem writeTemp_status (v : BitVec 16) : (writeTemp v s).status = s.status := rfl
@[simp] theorem writeTemp_common (v : BitVec 16) : (writeTemp v s).common = s.common := rfl
@[simp] theorem writeTemp_goldcap (v : BitVec 16) : (writeTemp v s).goldcap = s.goldcap := rfl
@[simp] theorem writeTemp_rainRate (v : BitVec 16) : (writeTemp v s).rainRate = s.rainRate := rfl
@[simp] theorem writeTemp_solar (v : BitVec 16) : (writeTemp v s).solar = s.solar := rfl
@[simp] theorem writeTemp_temp (v : BitVec 16) : (writeTemp v s).temp = ⟨true, v⟩ := rfl
@[simp] theorem writeTemp_gust (v : BitVec 16) : (writeTemp v s).gust = s.gust := rfl
@[simp] theorem writeTemp_hum (v : BitVec 16) : (writeTemp v s).hum = s.hum := rfl
@[simp] theorem writeTemp_rainClk (v : BitVec 16) : (writeTemp v s).rainClk = s.rainClk := rfl
@[simp] theorem writeTemp_rainDaily (v : BitVec 16) : (writeTemp v s).rainDaily = s.rainDaily := rfl
@[simp] theorem writeTemp_rainTotal (v : BitVec 16) : (writeTemp v s).rainTotal = s.rainTotal := rfl
@[simp] theorem writeTemp_inputs (v : BitVec 16) : (writeTemp v s).inputs = s.inputs := rfl

/-! ### writeGust -/

@[simp] theorem writeGust_pkt (v : BitVec 8) : (writeGust v s).pkt = s.pkt := rfl
@[simp] theorem writeGust_status (v : BitVec 8) : (writeGust v s).status = s.status := rfl
@[simp] theorem writeGust_common (v : BitVec 8) : (writeGust v s).common = s.common := rfl
@[simp] theorem writeGust_goldcap (v : BitVec 8) : (writeGust v s).goldcap = s.goldcap := rfl
@[simp] theorem writeGust_rainRate (v : BitVec 8) : (writeGust v s).rainRate = s.rainRate := rfl
@[simp] theorem writeGust_solar (v : BitVec 8) : (writeGust v s).solar = s.solar := rfl
@[simp] theorem writeGust_temp (v : BitVec 8) : (writeGust v s).temp = s.temp := rfl
@[simp] theorem writeGust_gust (v : BitVec 8) : (writeGust v s).gust = ⟨true, v⟩ := rfl
@[simp] theorem writeGust_hum (v : BitVec 8) : (writeGust v s).hum = s.hum := rfl
@[simp] theorem writeGust_rainClk (v : BitVec 8) : (writeGust v s).rainClk = s.rainClk := rfl
@[simp] theorem writeGust_rainDaily (v : BitVec 8) : (writeGust v s).rainDaily = s.rainDaily := rfl
@[simp] theorem writeGust_rainTotal (v : BitVec 8) : (writeGust v s).rainTotal = s.rainTotal := rfl
@[simp] theorem writeGust_inputs (v : BitVec 8) : (writeGust v s).inputs = s.inputs := rfl

/-! ### writeHum -/

@[simp] theorem writeHum_pkt (v : BitVec 12) : (writeHum v s).pkt = s.pkt := rfl
@[simp] theorem writeHum_status (v : BitVec 12) : (writeHum v s).status = s.status := rfl
@[simp] theorem writeHum_common (v : BitVec 12) : (writeHum v s).common = s.common := rfl
@[simp] theorem writeHum_goldcap (v : BitVec 12) : (writeHum v s).goldcap = s.goldcap := rfl
@[simp] theorem writeHum_rainRate (v : BitVec 12) : (writeHum v s).rainRate = s.rainRate := rfl
@[simp] theorem writeHum_solar (v : BitVec 12) : (writeHum v s).solar = s.solar := rfl
@[simp] theorem writeHum_temp (v : BitVec 12) : (writeHum v s).temp = s.temp := rfl
@[simp] theorem writeHum_gust (v : BitVec 12) : (writeHum v s).gust = s.gust := rfl
@[simp] theorem writeHum_hum (v : BitVec 12) : (writeHum v s).hum = ⟨true, v⟩ := rfl
@[simp] theorem writeHum_rainClk (v : BitVec 12) : (writeHum v s).rainClk = s.rainClk := rfl
@[simp] theorem writeHum_rainDaily (v : BitVec 12) : (writeHum v s).rainDaily = s.rainDaily := rfl
@[simp] theorem writeHum_rainTotal (v : BitVec 12) : (writeHum v s).rainTotal = s.rainTotal := rfl
@[simp] theorem writeHum_inputs (v : BitVec 12) : (writeHum v s).inputs = s.inputs := rfl

/-! ### countRain -/

@[simp] theorem countRain_pkt (c : BitVec 7) : (countRain c s).pkt = s.pkt := rfl
@[simp] theorem countRain_status (c : BitVec 7) : (countRain c s).status = s.status := rfl
@[simp] theorem countRain_common (c : BitVec 7) : (countRain c s).common = s.common := rfl
@[simp] theorem countRain_goldcap (c : BitVec 7) : (countRain c s).goldcap = s.goldcap := rfl
@[simp] theorem countRain_rainRate (c : BitVec 7) : (countRain c s).rainRate = s.rainRate := rfl
@[simp] theorem countRain_solar (c : BitVec 7) : (countRain c s).solar = s.solar := rfl
@[simp] theorem countRain_temp (c : BitVec 7) : (countRain c s).temp = s.temp := rfl
@[simp] theorem countRain_gust (c : BitVec 7) : (countRain c s).gust = s.gust := rfl
@[simp] theorem countRain_hum (c : BitVec 7) : (countRain c s).hum = s.hum := rfl
@[simp] theorem countRain_rainClk (c : BitVec 7) : (countRain c s).rainClk = ⟨true, c, rainDiff s.rainClk c⟩ := rfl
@[simp] theorem countRain_rainDaily (c : BitVec 7) : (countRain c s).rainDaily = accumulate s.rainDaily (rainDiff s.rainClk c) := rfl
@[simp] theorem countRain_rainTotal (c : BitVec 7) : (countRain c s).rainTotal = accumulate s.rainTotal (rainDiff s.rainClk c) := rfl
@[simp] theorem countRain_inputs (c : BitVec 7) : (countRain c s).inputs = s.inputs := rfl

/-! ### clearDaily -/

@[simp] theorem clearDaily_pkt : (clearDaily s).pkt = s.pkt := rfl
@[simp] theorem clearDaily_status : (clearDaily s).status = s.status := rfl
@[simp] theorem clearDaily_common : (clearDaily s).common = s.common := rfl
@[simp] theorem clearDaily_goldcap : (clearDaily s).goldcap = s.goldcap := rfl
@[simp] theorem clearDaily_rainRate : (clearDaily s).rainRate = s.rainRate := rfl
@[simp] theorem clearDaily_solar : (clearDaily s).solar = s.solar := rfl
@[simp] theorem clearDaily_temp : (clearDaily s).temp = s.temp := rfl
@[simp] theorem clearDaily_gust : (clearDaily s).gust = s.gust := rfl
@[simp] theorem clearDaily_hum : (clearDaily s).hum = s.hum := rfl
@[simp] theorem clearDaily_rainClk : (clearDaily s).rainClk = s.rainClk := rfl
@[simp] theorem clearDaily_rainDaily : (clearDaily s).rainDaily = 0 := rfl
@[simp] theorem clearDaily_rainTotal : (clearDaily s).rainTotal = s.rainTotal := rfl
@[simp] theorem clearDaily_inputs : (clearDaily s).inputs = s.inputs := rfl

/-! ### presentInput -/

@[simp] theorem presentInput_pkt (i : Input) : (presentInput i s).pkt = s.pkt := rfl
@[simp] theorem presentInput_status (i : Input) : (presentInput i s).status = s.status := rfl
@[simp] theorem presentInput_common (i : Input) : (presentInput i s).common = s.common := rfl
@[simp] theorem presentInput_goldcap (i : Input) : (presentInput i s).goldcap = s.goldcap := rfl
@[simp] theorem presentInput_rainRate (i : Input) : (presentInput i s).rainRate = s.rainRate := rfl
@[simp] theorem presentInput_solar (i : Input) : (presentInput i s).solar = s.solar := rfl
@[simp] theorem presentInput_temp (i : Input) : (presentInput i s).temp = s.temp := rfl
@[simp] theorem presentInput_gust (i : Input) : (presentInput i s).gust = s.gust := rfl
@[simp] theorem presentInput_hum (i : Input) : (presentInput i s).hum = s.hum := rfl
@[simp] theorem presentInput_rainClk (i : Input) : (presentInput i s).rainClk = s.rainClk := rfl
@[simp] theorem presentInput_rainDaily (i : Input) : (presentInput i s).rainDaily = s.rainDaily := rfl
@[simp] theorem presentInput_rainTotal (i : Input) : (presentInput i s).rainTotal = s.rainTotal := rfl
@[simp] theorem presentInput_inputs (i : Input) : (presentInput i s).inputs = i :: s.inputs := rfl

/-! ### resetBlock -/

@[simp] theorem resetBlock_toBlock : (resetBlock s).toBlock = Block.reset := rfl
@[simp] theorem resetBlock_inputs : (resetBlock s).inputs = s.inputs := rfl
@[simp] theorem reset_toBlock : State.reset.toBlock = Block.reset := rfl
@[simp] theorem reset_inputs : State.reset.inputs = [] := rfl

/-! ### sampleInput -/

theorem sampleInput_nil (h : s.inputs = []) : sampleInput s = (idleInput, s) := by
  simp [sampleInput, h]

theorem sampleInput_cons (i : Input) (rest : List Input) (h : s.inputs = i :: rest) :
    sampleInput s = (i, { s with inputs := rest }) := by
  simp [sampleInput, h]

end Sys2Proof.Machine
end

