-- ==== Sys2Proof/Laws/Decoder.lean ====
section
/-! SUPPORT. Everything a decoder run can do, said once: the closed form of `runDecoder`, field by field. -/

namespace Sys2Proof.Machine

/-- `v` where the packet in PKT has type `y`, else the old value. -/
def onType {α : Type} (p : Packet) (y : BitVec 4) (v old : α) : α := if p.msgType = y then v else old

/-- The state after a decoder run (R114), each field by the condition on `TYPE` under which it is written. -/
def decoderResult (s : State) : State :=
  let p := s.pkt
  let f := p.fields
  let d := rainDiff s.rainClk (countField f)
  { s with
    status :=
      { s.status with
        decoded := true
        div0 := onType p 0x5 (rainZeroDivisor f) false }
    common := ⟨true, p.msgType, f.batt, f.wspd, f.wdir⟩
    goldcap := onType p 0x2 ⟨true, goldcapField f⟩ s.goldcap
    rainRate :=
      onType p 0x5 (if rainZeroDivisor f then s.rainRate else ⟨true, rainModeField f, rainRawField f⟩) s.rainRate
    solar := onType p 0x7 ⟨true, solarField f⟩ s.solar
    temp := onType p 0x8 ⟨true, tempField f⟩ s.temp
    gust := onType p 0x9 ⟨true, gustField f⟩ s.gust
    hum := onType p 0xA ⟨true, humField f⟩ s.hum
    rainClk := onType p 0xE ⟨true, countField f, d⟩ s.rainClk
    rainDaily := onType p 0xE (accumulate s.rainDaily d) s.rainDaily
    rainTotal := onType p 0xE (accumulate s.rainTotal d) s.rainTotal }

/-- A 4-bit value is one of the sixteen message types. -/
theorem msgType_cases (y : BitVec 4) :
    y = 0x0 ∨ y = 0x1 ∨ y = 0x2 ∨ y = 0x3 ∨ y = 0x4 ∨ y = 0x5 ∨ y = 0x6 ∨ y = 0x7 ∨ y = 0x8 ∨ y = 0x9 ∨ y = 0xA ∨
      y = 0xB ∨ y = 0xC ∨ y = 0xD ∨ y = 0xE ∨ y = 0xF := by
  revert y; decide

/-- A 3-bit value is one of the eight command codes. -/
theorem cmd_cases (c : BitVec 3) : c = 0 ∨ c = 1 ∨ c = 2 ∨ c = 3 ∨ c = 4 ∨ c = 5 ∨ c = 6 ∨ c = 7 := by
  revert c; decide

/-- The decoder run completes, with exactly the writes of `decoderResult`. -/
theorem runDecoder_eq_result (s : State) : runDecoder s = .next (decoderResult s) := by
  rcases msgType_cases s.pkt.msgType with h | h | h | h | h | h | h | h | h | h | h | h | h | h | h | h
  case inr.inr.inr.inr.inr.inl =>
    cases hz : rainZeroDivisor s.pkt.fields <;>
      simp [runDecoder, decoderResult, onType, h, execM5Rainrate, hz, setDiv0, writeRainRate, beginRun]
  all_goals
    simp [runDecoder, decoderResult, onType, h, execM0Ign, execM1Ign, execM2Goldcap, execM3Rsvd, execM4Ign, execM6Ign,
      execM7Solar, execM8Temp, execM9Gust, execMaHum, execMbIgn, execMcIgn, execMdIgn, execMeRainclk, execMfIgn, beginRun,
      writeGoldcap, writeSolar, writeTemp, writeGust, writeHum, countRain]

@[simp] theorem decoderResult_pkt (s : State) : (decoderResult s).pkt = s.pkt := rfl
@[simp] theorem decoderResult_inputs (s : State) : (decoderResult s).inputs = s.inputs := rfl
@[simp] theorem decoderResult_event (s : State) : (decoderResult s).status.event = s.status.event := rfl
@[simp] theorem decoderResult_cmdErr (s : State) : (decoderResult s).status.cmdErr = s.status.cmdErr := rfl
@[simp] theorem decoderResult_decoded (s : State) : (decoderResult s).status.decoded = true := rfl

/-- PROCESS, by the two outcomes of the validity test (R86). -/
theorem execProcess_eq (s : State) :
    execProcess s =
      .next (if crcValid s.pkt then decoderResult (setEvent .success s) else setEvent .crcError s) := by
  unfold execProcess
  split <;> simp [runDecoder_eq_result]

/-- What the block does on the sample `i`, once for every step: the new state, whatever the sample. -/
def inputResult (i : Input) (s : State) : State :=
  match decodeInput i with
  | .load w => storePacket (loadOperand w) s
  | .loadr w => storePacket (loadrOperand w) s
  | .check => setEvent (checkEvent s.pkt) s
  | .decode => decoderResult s
  | .process => if crcValid s.pkt then decoderResult (setEvent .success s) else setEvent .crcError s
  | .clrdaily => clearDaily s
  | .rsvd7 => setCmdErr s
  | .reset => resetBlock s
  | _ => s

/-- A sample of the ports decodes to a command or the reset, never to a message type. -/
theorem decodeInput_cases (i : Input) :
    decodeInput i = .nop ∨ decodeInput i = .load i.pktIn ∨ decodeInput i = .loadr i.pktIn ∨ decodeInput i = .check ∨
      decodeInput i = .decode ∨ decodeInput i = .process ∨ decodeInput i = .clrdaily ∨ decodeInput i = .rsvd7 ∨
      decodeInput i = .reset := by
  obtain ⟨r, c, w⟩ := i
  cases r
  · rcases cmd_cases c with h | h | h | h | h | h | h | h <;> subst h <;> simp [decodeInput, decodeCommand]
  · simp [decodeInput]

theorem exec_decodeInput (i : Input) (s : State) : exec (decodeInput i) s = .next (inputResult i s) := by
  rcases decodeInput_cases i with h | h | h | h | h | h | h | h | h <;>
    simp [inputResult, h, exec, execNop, execLoad, execLoadr, execCheck, execDecode, execClrdaily, execRsvd7, execReset,
      runDecoder_eq_result, execProcess_eq]

end Sys2Proof.Machine
end

