-- ==== Sys2Proof/Laws/Packet.lean ====
section
/-! SUPPORT. Small lemmas of the packet's three forms, of the byte port and of the CRC functions. -/

namespace Sys2Proof

/-- A word cut in two and put together again. -/
theorem append_extract {n m : Nat} (w : BitVec (n + m)) : w.extractLsb' m n ++ w.extractLsb' 0 m = w := by
  ext i hi
  rw [BitVec.getElem_append]
  split
  · simp [BitVec.getLsbD_eq_getElem hi]
  · rw [BitVec.getElem_extractLsb', show m + (i - m) = i by omega, BitVec.getLsbD_eq_getElem hi]

/-- The high part of two words put together. -/
theorem extract_append_high {n m : Nat} (a : BitVec n) (b : BitVec m) : (a ++ b).extractLsb' m n = a := by
  ext i hi
  simp [BitVec.getLsbD_append, BitVec.getLsbD_eq_getElem hi]

/-- The low part of two words put together. -/
theorem extract_append_low {n m : Nat} (a : BitVec n) (b : BitVec m) : (a ++ b).extractLsb' 0 m = b := by
  ext i hi
  simp [BitVec.getLsbD_append, hi]

/-- A field above the low word of two words put together. -/
theorem extract_append_above {n m : Nat} (a : BitVec n) (b : BitVec m) (k j : Nat) :
    (a ++ b).extractLsb' (m + k) j = a.extractLsb' k j := by
  ext i hi
  simp only [BitVec.getElem_extractLsb', BitVec.getLsbD_append]
  rw [if_neg (by omega), show m + k + i - m = k + i by omega]

/-- The number two words put together stand for. -/
theorem append_toNat {n m : Nat} (a : BitVec n) (b : BitVec m) : (a ++ b).toNat = a.toNat * 2 ^ m + b.toNat := by
  rw [BitVec.toNat_append, ← Nat.shiftLeft_add_eq_or_of_lt b.isLt, Nat.shiftLeft_eq]

/-- The bytes of the word of a packet are the packet (R7, R55). -/
theorem Packet.ofWord_toWord (p : Packet) : Packet.ofWord p.toWord = p := by
  obtain ⟨a, b, c, d, e, f, g, h⟩ := p
  simp only [Packet.ofWord, Packet.toWord, Packet.mk.injEq]
  have up {n : Nat} (x : BitVec n) (y : Byte) (k : Nat) : (x ++ y).extractLsb' (8 + k) 8 = x.extractLsb' k 8 :=
    extract_append_above x y k 8
  refine ⟨?_, ?_, ?_, ?_, ?_, ?_, ?_, extract_append_low (n := 56) _ h⟩
  · exact (up (n := 56) _ h 48).trans ((up (n := 48) _ g 40).trans ((up (n := 40) _ f 32).trans
      ((up (n := 32) _ e 24).trans ((up (n := 24) _ d 16).trans ((up (n := 16) _ c 8).trans
        (extract_append_high a b))))))
  · exact (up (n := 56) _ h 40).trans ((up (n := 48) _ g 32).trans ((up (n := 40) _ f 24).trans
      ((up (n := 32) _ e 16).trans ((up (n := 24) _ d 8).trans ((up (n := 16) _ c 0).trans
        (extract_append_low a b))))))
  · exact (up (n := 56) _ h 32).trans ((up (n := 48) _ g 24).trans ((up (n := 40) _ f 16).trans
      ((up (n := 32) _ e 8).trans ((up (n := 24) _ d 0).trans (extract_append_low (n := 16) _ c)))))
  · exact (up (n := 56) _ h 24).trans ((up (n := 48) _ g 16).trans ((up (n := 40) _ f 8).trans
      ((up (n := 32) _ e 0).trans (extract_append_low (n := 24) _ d))))
  · exact (up (n := 56) _ h 16).trans ((up (n := 48) _ g 8).trans ((up (n := 40) _ f 0).trans
      (extract_append_low (n := 32) _ e)))
  · exact (up (n := 56) _ h 8).trans ((up (n := 48) _ g 0).trans (extract_append_low (n := 40) _ f))
  · exact (up (n := 56) _ h 0).trans (extract_append_low (n := 48) _ g)

/-- The word of the bytes of a word is the word (R7, R55). -/
theorem Packet.toWord_ofWord (w : PacketWord) : (Packet.ofWord w).toWord = w := by
  have cut {n : Nat} (m : Nat) (h : m + n ≤ 64) : w.extractLsb' (m + 8) n ++ w.extractLsb' m 8 =
      w.extractLsb' m (n + 8) := by
    ext i hi
    rw [BitVec.getElem_append]
    split
    · rw [BitVec.getElem_extractLsb', BitVec.getElem_extractLsb']
    · rw [BitVec.getElem_extractLsb', BitVec.getElem_extractLsb', show m + 8 + (i - 8) = m + i by omega]
  have all : w.extractLsb' 0 64 = w := by
    ext i hi
    rw [BitVec.getElem_extractLsb', BitVec.getLsbD_eq_getElem (by omega)]
    simp
  show w.extractLsb' 56 8 ++ w.extractLsb' 48 8 ++ w.extractLsb' 40 8 ++ w.extractLsb' 32 8 ++ w.extractLsb' 24 8 ++
    w.extractLsb' 16 8 ++ w.extractLsb' 8 8 ++ w.extractLsb' 0 8 = w
  rw [cut (n := 8) 48 (by omega), cut (n := 16) 40 (by omega), cut (n := 24) 32 (by omega),
    cut (n := 32) 24 (by omega), cut (n := 40) 16 (by omega), cut (n := 48) 8 (by omega), cut (n := 56) 0 (by omega)]
  exact all

theorem headByte_type (y : BitVec 4) (b : Bool) (u : BitVec 3) :
    (y ++ BitVec.ofBool b ++ u).extractLsb' 4 4 = y := by
  revert y b u; decide

theorem headByte_batt (y : BitVec 4) (b : Bool) (u : BitVec 3) : (y ++ BitVec.ofBool b ++ u).getLsbD 3 = b := by
  revert y b u; decide

theorem headByte_unused (y : BitVec 4) (b : Bool) (u : BitVec 3) :
    (y ++ BitVec.ofBool b ++ u).extractLsb' 0 3 = u := by
  revert y b u; decide

/-- The fields of the packet made of type `y` and fields `f` are `f` (R55). -/
theorem Fields.packet_fields (y : BitVec 4) (f : Fields) : (f.packet y).fields = f := by
  obtain ⟨b, u, s, d, x, y', z, c⟩ := f
  have hc : c.extractLsb' 8 8 ++ c.extractLsb' 0 8 = c := append_extract (n := 8) (m := 8) c
  simp only [Fields.packet, Packet.fields, headByte_batt, headByte_unused, hc]

/-- The type of the packet made of type `y` and fields `f` is `y` (R55). -/
theorem Fields.packet_msgType (y : BitVec 4) (f : Fields) : (f.packet y).msgType = y :=
  headByte_type y f.batt f.unused0

namespace Machine

theorem memRead_of_ge (p : Packet) (i : BitVec 8) (h : 8 ≤ i.toNat) : memRead p i = 0xFF#8 := by
  unfold memRead
  split <;> first | rfl | omega

theorem packetBytes_length (p : Packet) : (packetBytes p).length = 8 := rfl

theorem coveredBytes_eq (p : Packet) : coveredBytes p = [p.d0, p.d1, p.d2, p.d3, p.d4, p.d5] := rfl

theorem crc16_nil : crc16 [] = 0x0000#16 := rfl

theorem crc16_concat (bs : List Byte) (b : Byte) : crc16 (bs ++ [b]) = crcByte (crc16 bs) b := by
  simp [crc16]

theorem crcShift_xor (a b : Crc) : crcShift (a ^^^ b) = crcShift a ^^^ crcShift b := by
  unfold crcShift
  have cancel (x y p : Crc) : (x ^^^ p) ^^^ (y ^^^ p) = x ^^^ y := by
    rw [BitVec.xor_assoc, BitVec.xor_comm y p, ← BitVec.xor_assoc p, BitVec.xor_self, BitVec.zero_xor]
  cases ha : a.msb <;> cases hb : b.msb <;>
    simp [ha, hb, BitVec.shiftLeft_xor_distrib, BitVec.xor_assoc, cancel]
  · exact BitVec.xor_comm _ _

end Machine
end Sys2Proof
end

