-- ==== Sys2Proof/Laws/PerInstr.lean ====
section
/-! SUPPORT. Statements made for each instruction, one lemma per constructor of `Instr`. -/

/-! ## CanonicalCode: the encoder gives the canonical form -/

/-- Every port the instruction ignores is zero in the code the encoder gives (R70, R72). -/
def Sys2Proof.Laws.CanonicalCode.Statement (i : Sys2Proof.Instr) : Prop :=
  (Sys2Proof.encode i).canonical = true

namespace Sys2Proof.Laws.CanonicalCode

theorem m0Ign (f : Fields) : Statement (.m0Ign f) := rfl
theorem m1Ign (f : Fields) : Statement (.m1Ign f) := rfl
theorem m2Goldcap (f : Fields) : Statement (.m2Goldcap f) := rfl
theorem m3Rsvd (f : Fields) : Statement (.m3Rsvd f) := rfl
theorem m4Ign (f : Fields) : Statement (.m4Ign f) := rfl
theorem m5Rainrate (f : Fields) : Statement (.m5Rainrate f) := rfl
theorem m6Ign (f : Fields) : Statement (.m6Ign f) := rfl
theorem m7Solar (f : Fields) : Statement (.m7Solar f) := rfl
theorem m8Temp (f : Fields) : Statement (.m8Temp f) := rfl
theorem m9Gust (f : Fields) : Statement (.m9Gust f) := rfl
theorem maHum (f : Fields) : Statement (.maHum f) := rfl
theorem mbIgn (f : Fields) : Statement (.mbIgn f) := rfl
theorem mcIgn (f : Fields) : Statement (.mcIgn f) := rfl
theorem mdIgn (f : Fields) : Statement (.mdIgn f) := rfl
theorem meRainclk (f : Fields) : Statement (.meRainclk f) := rfl
theorem mfIgn (f : Fields) : Statement (.mfIgn f) := rfl
theorem nop : Statement .nop := rfl
theorem load (pktIn : PacketWord) : Statement (.load pktIn) := rfl
theorem loadr (pktIn : PacketWord) : Statement (.loadr pktIn) := rfl
theorem check : Statement .check := rfl
theorem decode : Statement .decode := rfl
theorem process : Statement .process := rfl
theorem clrdaily : Statement .clrdaily := rfl
theorem rsvd7 : Statement .rsvd7 := rfl
theorem reset : Statement .reset := rfl

end Sys2Proof.Laws.CanonicalCode
end

