-- ==== Sys2Proof/Tests/Slice0.lean ====
section
/-! SUPPORT. The model's own tests. Expected results are the vectors of 95_test_vectors.md (their ids stand in the comments)
or words written out from 30_encoding.md; and one witness for each statement that has hypotheses. -/

-- One theorem after the other: checked side by side, the many small `decide +kernel` each take a thread of their own.
set_option Elab.async false

namespace Sys2Proof.Tests.Slice0

open Sys2Proof Sys2Proof.Machine Sys2Proof.Safety

/-- The next state of an outcome; reset where there is none. -/
def nextOf : Outcome → State
  | .next t => t
  | .fault _ => State.reset
  | .refused _ => State.reset

/-- The reset state with a packet in PKT. -/
def withPkt (w : PacketWord) : State := { State.reset with pkt := Packet.ofWord w }

/-- A seeded rain counter after the reset state. -/
def rainState (count : BitVec 7) (daily total : Total) (w : PacketWord) : State :=
  { withPkt w with rainClk := ⟨true, count, 0⟩, rainDaily := daily, rainTotal := total }

/-! ## WellFormed: a term each check refuses -/

theorem test_wf_every_instruction : Instr.wf .rsvd7 = true := by decide
theorem test_canonical_refuses_nop_operand : Input.canonical ⟨false, 0, 1⟩ = false := by decide
theorem test_canonical_refuses_check_operand : Code.canonical (.ports ⟨false, 3, 0xFF⟩) = false := by decide
theorem test_canonical_refuses_reset_cmd : Input.canonical ⟨true, 1, 0⟩ = false := by decide
theorem test_canonical_refuses_reset_operand : Input.canonical ⟨true, 0, 1⟩ = false := by decide
theorem test_canonical_admits_load_operand : Input.canonical ⟨false, 1, 0x8000B2280200819C⟩ = true := by decide

/-! ## Decoding, one word per constructor -/

-- V-DEC-0
theorem test_decode_m0Ign : decodeTableWord 64 0x0000000000011021 =
    some (.m0Ign ⟨false, 0, 0x00, 0x00, 0x00, 0x00, 0x01, 0x1021⟩) := by decide
-- V-DEC-1
theorem test_decode_m1Ign : decodeTableWord 64 0x1011223344553904 =
    some (.m1Ign ⟨false, 0, 0x11, 0x22, 0x33, 0x44, 0x55, 0x3904⟩) := by decide
-- V-DEC-2a
theorem test_decode_m2Goldcap : decodeTableWord 64 0x28FFFFFFFFFFFB2A =
    some (.m2Goldcap ⟨true, 0, 0xFF, 0xFF, 0xFF, 0xFF, 0xFF, 0xFB2A⟩) := by decide
-- V-DEC-3
theorem test_decode_m3Rsvd : decodeTableWord 64 0x300580AABBCC7189 =
    some (.m3Rsvd ⟨false, 0, 0x05, 0x80, 0xAA, 0xBB, 0xCC, 0x7189⟩) := by decide
-- V-DEC-4
theorem test_decode_m4Ign : decodeTableWord 64 0x400102030405E818 =
    some (.m4Ign ⟨false, 0, 0x01, 0x02, 0x03, 0x04, 0x05, 0xE818⟩) := by decide
-- V-DEC-5a
theorem test_decode_m5Rainrate : decodeTableWord 64 0x5B0A404040008B65 =
    some (.m5Rainrate ⟨true, 3, 0x0A, 0x40, 0x40, 0x40, 0x00, 0x8B65⟩) := by decide
-- V-DEC-6
theorem test_decode_m6Ign : decodeTableWord 64 0x600102030405DD10 =
    some (.m6Ign ⟨false, 0, 0x01, 0x02, 0x03, 0x04, 0x05, 0xDD10⟩) := by decide
-- V-DEC-7a
theorem test_decode_m7Solar : decodeTableWord 64 0x700000013F006707 =
    some (.m7Solar ⟨false, 0, 0x00, 0x00, 0x01, 0x3F, 0x00, 0x6707⟩) := by decide
-- V-DEC-8
theorem test_decode_m8Temp : decodeTableWord 64 0x8000B2280200819C =
    some (.m8Temp ⟨false, 0, 0x00, 0xB2, 0x28, 0x02, 0x00, 0x819C⟩) := by decide
-- V-DEC-9
theorem test_decode_m9Gust : decodeTableWord 64 0x900A401900003B64 =
    some (.m9Gust ⟨false, 0, 0x0A, 0x40, 0x19, 0x00, 0x00, 0x3B64⟩) := by decide
-- V-DEC-A
theorem test_decode_maHum : decodeTableWord 64 0xA000008A20001B55 =
    some (.maHum ⟨false, 0, 0x00, 0x00, 0x8A, 0x20, 0x00, 0x1B55⟩) := by decide
-- V-DEC-B
theorem test_decode_mbIgn : decodeTableWord 64 0xB0010203040579A4 =
    some (.mbIgn ⟨false, 0, 0x01, 0x02, 0x03, 0x04, 0x05, 0x79A4⟩) := by decide
-- V-DEC-C
theorem test_decode_mcIgn : decodeTableWord 64 0xC001020304053C38 =
    some (.mcIgn ⟨false, 0, 0x01, 0x02, 0x03, 0x04, 0x05, 0x3C38⟩) := by decide
-- V-DEC-D
theorem test_decode_mdIgn : decodeTableWord 64 0xD0010203040526BC =
    some (.mdIgn ⟨false, 0, 0x01, 0x02, 0x03, 0x04, 0x05, 0x26BC⟩) := by decide
-- V-DEC-E
theorem test_decode_meRainclk : decodeTableWord 64 0xE00000FFFFFF5954 =
    some (.meRainclk ⟨false, 0, 0x00, 0x00, 0xFF, 0xFF, 0xFF, 0x5954⟩) := by decide
-- V-DEC-F
theorem test_decode_mfIgn : decodeTableWord 64 0xF800000000009CFE =
    some (.mfIgn ⟨true, 0, 0x00, 0x00, 0x00, 0x00, 0x00, 0x9CFE⟩) := by decide
theorem test_decode_nop : decodeTableWord 8 0b000 = some .nop := by decide
theorem test_decode_load : decode (.ports ⟨false, 0b001, 0x8000B2280200819C⟩) = .load 0x8000B2280200819C := by decide
theorem test_table_load : decodeTableWord 8 1 = some (.load 0) := by decide
theorem test_decode_loadr : decode (.ports ⟨false, 0b010, 0x8000B2280200819C⟩) = .loadr 0x8000B2280200819C := by decide
theorem test_table_loadr : decodeTableWord 8 2 = some (.loadr 0) := by decide
theorem test_decode_check : decodeTableWord 8 0b011 = some .check := by decide
theorem test_decode_decode : decodeTableWord 8 0b100 = some .decode := by decide
theorem test_decode_process : decodeTableWord 8 0b101 = some .process := by decide
theorem test_decode_clrdaily : decodeTableWord 8 0b110 = some .clrdaily := by decide
theorem test_decode_rsvd7 : decodeTableWord 8 0b111 = some .rsvd7 := by decide
theorem test_decode_reset : decode (.ports ⟨true, 0b001, 0x8000B2280200819C⟩) = .reset := by decide
theorem test_table_reset : decodeTableWord 1 1 = some .reset := by decide
theorem test_table_refuses_code_8 : decodeTableWord 8 8 = none := by decide

/-! ## Line encodings (R73) -/

theorem test_line_load : encodeLine ⟨false, 1, 0x8000B2280200819C⟩ = "1:8000B2280200819C".toList := by decide
theorem test_line_reset : decodeLine ['R'] = .ok ⟨true, 0, 0⟩ := by decide
theorem test_line_operand_length : decodeLine ['1', ':', '8'] = .error .operandLength := by decide
theorem test_line_missing_colon : decodeLine ['2'] = .error .missingColon := by decide
theorem test_line_bad_code : decodeLine ['8'] = .error .badCommandCode := by decide
theorem test_line_bad_digit : decodeLine "1:8000B2280200819G".toList = .error .badHexDigit := by decide
theorem test_line_trailing : decodeLine ['3', '0'] = .error .trailing := by decide
theorem test_line_empty : decodeLine [] = .error .empty := by decide

/-! ## CRC (V-CRC) -/

theorem test_crc_1 : crc16 [0x80, 0x00, 0xB2, 0x30, 0xA9, 0x00] = 0xAADA := by decide +kernel
theorem test_crc_2 : crc16 [0x80, 0x00, 0xB2, 0x28, 0x02, 0x00] = 0x819C := by decide +kernel
theorem test_crc_3 : crc16 [0x31, 0x32, 0x33, 0x34, 0x35, 0x36, 0x37, 0x38, 0x39] = 0x31C3 := by decide +kernel
theorem test_crc_5c : crc16 [0xFF] = 0x1EF0 := by decide +kernel
theorem test_crc_7b : crc16 [0x01, 0x00, 0x00, 0x00, 0x00, 0x00] = 0x45A0 := by decide +kernel
theorem test_crc_7e : crc16 [0xE0, 0x05, 0x10, 0x0A, 0xCD, 0x23] = 0x0000 := by decide +kernel
theorem test_crc_bitwise : crc16Bitwise [0x80, 0x00, 0xB2, 0x30, 0xA9, 0x00] = 0xAADA := by decide +kernel
-- V-CRC-9: matches, is zero, is invalid
theorem test_crc_zero_rule : crcMatch (Packet.ofWord 0x8000B23093040000) = true ∧
    crcNonzero (Packet.ofWord 0x8000B23093040000) = false ∧ crcValid (Packet.ofWord 0x8000B23093040000) = false := by
  decide +kernel
-- V-CRC-18: the wire CRC is big-endian
theorem test_crc_swapped : checkEvent (Packet.ofWord 0x8000B230A900DAAA) = .crcError := by decide +kernel

/-! ## Commands -/

theorem test_nop : exec .nop (withPkt 0x8000B2280200819C) = .next (withPkt 0x8000B2280200819C) := rfl
-- V-CMD-6: results keep their values, EVENT and DECODED are cleared
theorem test_load : (nextOf (exec (.load 0x8000B2280200819C) (nextOf (exec .process (withPkt 0x8000B2280200819C))))).status =
    ⟨.none, false, false, false⟩ := by decide +kernel
-- V-REV-12
theorem test_loadr : (nextOf (exec (.loadr 0x01004D1440008139) State.reset)).pkt =
    ⟨0x80, 0x00, 0xB2, 0x28, 0x02, 0x00, 0x81, 0x9C⟩ := by decide +kernel
-- V-CRC-8, V-CRC-17
theorem test_check_valid : (nextOf (exec .check (withPkt 0x8000B230A900AADA))).status.event = .success := by
  decide +kernel
theorem test_check_invalid : (nextOf (exec .check (withPkt 0x8000B230A900AA5A))).status.event = .crcError := by
  decide +kernel
-- V-CMD-8
theorem test_decode_ungated : (nextOf (exec .decode (withPkt 0x8000B22802000000))).temp = ⟨true, 10242⟩ ∧
    (nextOf (exec .decode (withPkt 0x8000B22802000000))).status = ⟨.none, true, false, false⟩ := by decide +kernel
-- V-CMD-7, V-CMD-5
theorem test_process_invalid : (nextOf (exec .process (withPkt 0x8000B2280200819D))).status =
    ⟨.crcError, false, false, false⟩ := by decide +kernel
theorem test_process_valid : (nextOf (exec .process (withPkt 0x8000B2280200819C))).status =
    ⟨.success, true, false, false⟩ := by decide +kernel
-- V-CMD-9
theorem test_clrdaily : (nextOf (exec .clrdaily (rainState 10 18 18 0))).rainDaily = 0 ∧
    (nextOf (exec .clrdaily (rainState 10 18 18 0))).rainTotal = 18 := by decide
-- V-CMD-10, V-CMD-11
theorem test_rsvd7 : (nextOf (exec .rsvd7 State.reset)).status = ⟨.none, false, false, true⟩ := by decide
theorem test_reset : (nextOf (exec .reset (nextOf (exec .rsvd7 (withPkt 5))))).toBlock = Block.reset := by decide
-- V-CMD-12: a reset step does not load its operand
theorem test_reset_over_load : (nextOf (exec (decodeInput ⟨true, 1, 5⟩) State.reset)).toBlock = Block.reset := by decide

/-! ## Message types (V-DEC, V-RAIN): PROCESS on a valid packet -/

theorem test_m0Ign : (let t := nextOf (exec .process (withPkt 0x0000000000011021)); (t.common, t.status)) =
    (⟨true, 0, false, 0, 0⟩, ⟨.success, true, false, false⟩) := by decide +kernel
theorem test_m1Ign : (let t := nextOf (exec .process (withPkt 0x1011223344553904)); t.common) =
    ⟨true, 1, false, 0x11, 0x22⟩ := by decide +kernel
theorem test_m2Goldcap : (let t := nextOf (exec .process (withPkt 0x2001027D8000F3F0)); (t.common, t.goldcap)) =
    (⟨true, 2, false, 1, 2⟩, ⟨true, 502⟩) := by decide +kernel
theorem test_m2Goldcap_max : (let t := nextOf (exec .process (withPkt 0x28FFFFFFFFFFFB2A)); (t.common, t.goldcap)) =
    (⟨true, 2, true, 255, 255⟩, ⟨true, 1023⟩) := by decide +kernel
theorem test_m3Rsvd : (let t := nextOf (exec .process (withPkt 0x300580AABBCC7189)); (t.common, t.goldcap)) =
    (⟨true, 3, false, 5, 128⟩, ⟨false, 0⟩) := by decide +kernel
theorem test_m4Ign : (let t := nextOf (exec .process (withPkt 0x400102030405E818)); t.common) =
    ⟨true, 4, false, 1, 2⟩ := by decide +kernel
theorem test_m5Rainrate : (let t := nextOf (exec .process (withPkt 0x5B0A404040008B65)); (t.common, t.rainRate)) =
    (⟨true, 5, true, 10, 64⟩, ⟨true, true, 64⟩) := by decide +kernel
theorem test_m5Rainrate_zero_divisor : (let t := nextOf (exec .process (withPkt 0x500A40004000556A)); (t.status, t.rainRate)) =
    (⟨.success, true, true, false⟩, ⟨false, false, 0⟩) := by decide +kernel
theorem test_m6Ign : (let t := nextOf (exec .process (withPkt 0x600102030405DD10)); t.common) =
    ⟨true, 6, false, 1, 2⟩ := by decide +kernel
theorem test_m7Solar : (let t := nextOf (exec .process (withPkt 0x700000FFC0009CAB)); t.solar) =
    ⟨true, 1023⟩ := by decide +kernel
theorem test_m7Solar_unused : (let t := nextOf (exec .process (withPkt 0x700000013F006707)); t.solar) =
    ⟨true, 4⟩ := by decide +kernel
theorem test_m8Temp : (let t := nextOf (exec .process (withPkt 0x8000B230A900AADA)); t.temp) =
    ⟨true, 12457⟩ := by decide +kernel
theorem test_m8Temp_unsigned : (let t := nextOf (exec .process (withPkt 0x800000FFFF0018BC)); t.temp) =
    ⟨true, 65535⟩ := by decide +kernel
theorem test_m9Gust : (let t := nextOf (exec .process (withPkt 0x900A401900003B64)); (t.common, t.gust)) =
    (⟨true, 9, false, 10, 64⟩, ⟨true, 25⟩) := by decide +kernel
theorem test_maHum : (let t := nextOf (exec .process (withPkt 0xA000008A20001B55)); t.hum) =
    ⟨true, 650⟩ := by decide +kernel
theorem test_maHum_max : (let t := nextOf (exec .process (withPkt 0xA00000FFFF002DB4)); t.hum) =
    ⟨true, 4095⟩ := by decide +kernel
theorem test_mbIgn : (let t := nextOf (exec .process (withPkt 0xB0010203040579A4)); t.common) =
    ⟨true, 11, false, 1, 2⟩ := by decide +kernel
theorem test_mcIgn : (let t := nextOf (exec .process (withPkt 0xC001020304053C38)); t.common) =
    ⟨true, 12, false, 1, 2⟩ := by decide +kernel
theorem test_mdIgn : (let t := nextOf (exec .process (withPkt 0xD0010203040526BC)); t.common) =
    ⟨true, 13, false, 1, 2⟩ := by decide +kernel
theorem test_mfIgn : (let t := nextOf (exec .process (withPkt 0xF800000000009CFE)); t.common) =
    ⟨true, 15, true, 0, 0⟩ := by decide +kernel
-- V-RAIN-2: previous 120, count 10, difference 18
theorem test_meRainclk_wrap : (let t := nextOf (exec .process (rainState 120 0 0 0xE005100A00007409)); (t.rainClk, t.rainDaily)) =
    (⟨true, 10, 18⟩, 18) := by decide +kernel
-- V-RAIN-8: the totals wrap modulo 2^32
theorem test_meRainclk_totals : (let t := nextOf (exec .process (rainState 0 3 0xFFFFFFFB 0xE000000A00004CF9)); (t.rainDaily, t.rainTotal)) =
    (13, 5) := by decide +kernel

/-! ## Ports (V-MEM, V-CMD) -/

theorem test_byte_port : memRead (Packet.ofWord 0x8000B2280200819C) 3 = 0x28 ∧
    memRead (Packet.ofWord 0x8000B2280200819C) 8 = 0xFF := by decide
theorem test_read_reset : readReg Block.reset 0 = 0x00000100 := by decide +kernel
-- P1, line 3
theorem test_read_process : (let t := (nextOf (exec .process (withPkt 0x8000B2280200819C))).toBlock;
    (readReg t 0, readReg t 1, readReg t 3, readReg t 4, readReg t 5, readReg t 9)) =
    (0x00000705, 0x0000819C, 0x8000B228, 0x0200819C, 0x800800B2, 0x80002802) := by decide +kernel
-- P2, line 5
theorem test_read_rain : readReg (nextOf (exec .process (rainState 120 0 0 0xE005100A00007409))).toBlock 12 = 0x8000120A := by
  decide +kernel
-- P4, line 9
theorem test_read_rate : readReg (nextOf (exec .process (withPkt 0x500A40074000D0FA))).toBlock 7 = 0x80000407 := by
  decide +kernel
-- V-REV-5, V-REV-7
theorem test_rev8 : rev8 0xA9 = 0x95 ∧ rev8 0xB2 = 0x4D := by decide

/-! ## Values (V-VAL) -/

theorem test_val_wind_speed : valWindSpeed 255#8 = 4103817 / 10000 := by
  have h : (255#8).toNat = 255 := rfl
  norm_num [valWindSpeed, Config.kMph, h]
theorem test_val_wind_dir : valWindDir 0#8 = 180 ∧ valWindDir 178#8 = 1212 / 17 := by
  have h0 : (0#8).toNat = 0 := rfl
  have h : (178#8).toNat = 178 := rfl
  norm_num [valWindDir, h0, h]
theorem test_val_goldcap : valGoldcap 502#10 = 251 / 50 := by
  have h : (502#10).toNat = 502 := rfl
  norm_num [valGoldcap, h]
theorem test_val_rain : valRainClicks true 64#10 = some (225 / 4) ∧ valRainMmH false 7#10 = some (11520 / 7) ∧
    valRainClicks true 0x2FF#10 = some 0 := by
  simp [valRainClicks, valRainMmH]
  norm_num
theorem test_val_temp : valTemp 10242#16 = 160 / 9 ∧ valTemp 0#16 = -160 / 9 ∧ valTemp 32768#16 = 860 / 9 := by
  simp [valTemp]
  norm_num
theorem test_val_hum : valHum 655#12 = 131 / 2 := by
  have h : (655#12).toNat = 655 := rfl
  norm_num [valHum, h]
theorem test_val_gust : valGust 25#8 = 80467 / 2000 := by
  have h : (25#8).toNat = 25 := rfl
  norm_num [valGust, Config.kMph, h]

/-! ## Listing lines (R73, R74; P1, P4) -/

theorem test_listing_load : assembleLine "LOAD  80 00 B2 28 02 00 81 9C ; P1".toList =
    .ok [⟨false, 1, 0x8000B2280200819C⟩] := by decide +kernel
theorem test_listing_seal : assembleLine "LOAD SEAL(M8.TEMP 0, 0, 0xB2, 10242)".toList =
    .ok [⟨false, 1, 0x8000B2280200819C⟩] := by decide +kernel
theorem test_listing_rainrate : assembleLine "RECV SEAL(M5.RAINRATE 1, 10, 0x40, 0, 0x1FF)".toList =
    .ok [⟨false, 1, 0x580A40FF100099F4⟩, ⟨false, 5, 0⟩] := by decide +kernel
theorem test_listing_out_of_range : assembleLine "LOAD SEAL(M9.GUST 0, 0, 0, 256)".toList = .error .outOfRange := by
  decide +kernel
theorem test_listing_unknown : assembleLine "HALT".toList = .error .unknownMnemonic := by decide +kernel

/-! ## Step -/

theorem test_step_idle : step State.reset = .next State.reset := rfl
theorem test_step_packet_word : (nextOf (step (State.reset.withFetchWord 64 0x8000B2280200819C))).temp = ⟨true, 10242⟩ := by
  decide +kernel
theorem test_step_command_word : (nextOf (step (State.reset.withFetchWord 8 7))).status.cmdErr = true := by decide +kernel
-- V-CMD-2, V-CMD-5: two samples presented in one queue
theorem test_run_recv : (nextOf (Sys2Proof.core.run 2 { State.reset with inputs := recv 0x8000B2280200819C })).temp = ⟨true, 10242⟩ := by
  decide +kernel

/-- A state in which every register has been written. -/
def measuredState : State :=
  { State.reset with
    common := ⟨true, 0xE, true, 5, 16⟩
    goldcap := ⟨true, 502⟩
    rainRate := ⟨true, true, 7⟩
    solar := ⟨true, 4⟩
    temp := ⟨true, 10242⟩
    gust := ⟨true, 25⟩
    hum := ⟨true, 655⟩
    rainClk := ⟨true, 10, 18⟩
    rainDaily := 2
    rainTotal := 20 }

/-! ## Witnesses: a state and operands that meet the hypotheses of each statement that has some -/

theorem witness_ResetStateIsAllZero : (7#8 : BitVec 8).toNat < 8 := by decide
theorem witness_LoadStoresTrueBytes : (7#8 : BitVec 8).toNat < 8 ∧ 8 ≤ (8#8 : BitVec 8).toNat := by decide
theorem witness_LoadrStoresReversedBytes : (0#8 : BitVec 8).toNat < 8 ∧ 7 < 8 ∧ 8 ≤ (255#8 : BitVec 8).toNat := by decide
theorem witness_CheckRecordsValidity : exec .check State.reset = .next (setEvent (checkEvent State.reset.pkt) State.reset) := rfl
theorem witness_ProcessIsCheckThenDecode : crcValid (withPkt 0x8000B2280200819C).pkt = true ∧
    crcValid (withPkt 0x8000B2280200819D).pkt = false := by decide +kernel
theorem witness_ReservedCodeSetsCmdErr : (nextOf (exec .rsvd7 State.reset)).status.cmdErr = true ∧
    (⟨false, 1, 5⟩ : Input).rst = false := by decide
theorem witness_OnlyLoadsAndResetWritePkt : exec .clrdaily (withPkt 5) = .next (clearDaily (withPkt 5)) ∧
    (∀ w, Instr.clrdaily ≠ .load w) ∧ (∀ w, Instr.clrdaily ≠ .loadr w) ∧ Instr.clrdaily ≠ .reset := by
  refine ⟨rfl, ?_, ?_, ?_⟩ <;> simp
theorem witness_ResultsChangeOnlyByDecoding : exec (decodeInput ⟨false, 4, 0⟩) State.reset = .next (beginRun 0 ⟨false, 0, 0, 0, 0, 0, 0, 0⟩ State.reset) ∧
    ¬ SameResults State.reset.toBlock (beginRun 0 ⟨false, 0, 0, 0, 0, 0, 0, 0⟩ State.reset).toBlock :=
  ⟨rfl, fun h => absurd h.common (by decide)⟩
theorem witness_PriorityInsideStep_invalid : crcValid (withPkt 0x5000000000000000).pkt = false := by decide +kernel
theorem witness_PriorityInsideStep_zero_divisor : crcValid (withPkt 0x500A40004000556A).pkt = true ∧
    (withPkt 0x500A40004000556A).pkt.msgType = 0x5 ∧ (withPkt 0x500A40004000556A).pkt.d3 = 0x00 ∧
    (withPkt 0x500A40004000556A).pkt.d4.extractLsb' 4 2 = 0 := by decide +kernel
theorem witness_PriorityInsideStep_no_rain : (withPkt 0x580A40FF100099F4).pkt.d3 = 0xFF ∧ (⟨true, 5, 1⟩ : Input).rst = true := by decide +kernel
theorem witness_EveryMessageTypeWritesCommonFields :
    messageParts (.mfIgn ⟨true, 0, 0, 0, 0, 0, 0, 0⟩) = some (0xF, ⟨true, 0, 0, 0, 0, 0, 0, 0⟩) := by decide
theorem witness_OtherResultRegistersAreKept :
    messageParts (.m9Gust ⟨true, 0, 0, 0, 3, 0, 0, 0⟩) = some (0x9, ⟨true, 0, 0, 0, 3, 0, 0, 0⟩) ∧
    exec (.m9Gust ⟨true, 0, 0, 0, 3, 0, 0, 0⟩) State.reset =
      .next (writeGust 3 (beginRun 0x9 ⟨true, 0, 0, 0, 3, 0, 0, 0⟩ State.reset)) := ⟨rfl, rfl⟩
theorem witness_TypesWithoutOutputWriteCommonOnly (f : Fields) : Instr.m3Rsvd f = .m3Rsvd f ∧ (0x3 : BitVec 4) = 0x3 :=
  ⟨rfl, rfl⟩
theorem witness_RainrateStores_no_rain : (⟨false, 0, 0, 0, 255, 0, 0, 0⟩ : Fields).t3 = 255 := by decide
theorem witness_RainrateStores_low_bits_zero : (⟨false, 0, 0, 0, 0, 0x10, 0, 0⟩ : Fields).t3.toNat +
    (⟨false, 0, 0, 0, 0, 0x10, 0, 0⟩ : Fields).t4.toNat / 16 % 4 * 256 ≠ 0 := by decide
theorem witness_RainrateZeroDivisor : (⟨false, 0, 0, 0, 0, 0x40, 0, 0⟩ : Fields).t3 = 0x00 ∧
    (⟨false, 0, 0, 0, 0, 0x40, 0, 0⟩ : Fields).t4.extractLsb' 4 2 = 0 ∧ (setDiv0 State.reset).status.div0 = true := by decide
theorem witness_RainclkResult : (rainState 120 0 0 0).rainClk.seeded = true ∧ State.reset.rainClk.seeded = false ∧
    (rainState 120 0 0 0).rainClk.count.toNat ≤ 127 ∧ 10 < (rainState 120 0 0 0).rainClk.count.toNat := by decide
-- the two packets of 95_test_vectors.md section 2.4, "Independence from unused bits"
theorem witness_UnusedBitsHaveNoEffect :
    SameUsedBits (Packet.ofWord 0x2001027D80000000) (Packet.ofWord 0x2701027DBFFFABCD) := by
  constructor <;> decide
theorem witness_DecodingAgainChangesOnlyRainDiff : (Instr.decode = .decode ∨ Instr.decode = .process ∧ crcValid State.reset.pkt = true) ∧
    crcValid (withPkt 0xE000000A00004CF9).pkt = true := ⟨Or.inl rfl, by decide +kernel⟩
theorem witness_CrcIsLinear : ([0x80, 0x01] : List Byte).length = ([0xFF, 0x00] : List Byte).length := by decide
theorem witness_SingleBitErrorIsDetected : 63 < 64 ∧ crcValid (Packet.ofWord 0x8000B2280200819C) = true := by decide +kernel
theorem witness_ZeroCrcIsNeverAccepted : crcCalc (Packet.ofWord 0x8000B23093041234) = 0x0000 := by decide +kernel
theorem witness_BytePort : 8 ≤ (8#8 : BitVec 8).toNat := by decide
theorem witness_ReadMap : 15 ≤ (15#5 : BitVec 5).toNat ∧ State.reset.toBlock = Block.reset := by decide
theorem witness_StepRunsPresentedInput : (presentInput ⟨false, 3, 0⟩ State.reset).inputs = [⟨false, 3, 0⟩] ∧
    State.reset.inputs = [] := by decide
theorem witness_PlacedPacketWordRuns : 0xF800000000009CFE < 2 ^ 64 := by decide
theorem witness_DecodeEncodeRoundTrip : (Instr.load 0xFFFFFFFFFFFFFFFF).wf = true := by decide
theorem witness_EncodeDecodeRoundTrip : (Code.ports ⟨false, 2, 0x01⟩).canonical = true ∧ (Code.packet 5).canonical = true := by
  decide
theorem witness_LineEncodingRoundTrip : Input.canonical ⟨false, 1, 0xFFFFFFFFFFFFFFFF⟩ = true := by decide
theorem witness_Inv : Inv State.reset.toBlock := by constructor <;> decide +kernel
theorem witness_StepKeepsInvariant : step State.reset = .next State.reset := rfl
theorem witness_DailyAtMostTotalUntilWrap : (rainState 10 3 5 0).rainDaily.toNat ≤ (rainState 10 3 5 0).rainTotal.toNat ∧
    (rainState 10 3 5 0).rainTotal.toNat + 127 < 2 ^ 32 ∧ step (rainState 10 3 5 0) = .next (rainState 10 3 5 0) :=
  ⟨by decide, by decide, rfl⟩
theorem witness_GatedHostDecodesOnlyValidPackets :
    decodesOnSuccess State.reset [⟨false, 1, 0x8000B2280200819C⟩, ⟨false, 3, 0⟩, ⟨false, 4, 0⟩] = true ∧
    (nextOf (drive State.reset [⟨false, 1, 0x8000B2280200819C⟩, ⟨false, 3, 0⟩, ⟨false, 4, 0⟩])).status =
      ⟨.success, true, false, false⟩ := by decide +kernel
-- CHECK on a decoded, valid packet: the clause is not met by DECODED = 0 alone
theorem witness_ProcessOnlyHostIsGated_sample :
    Inv (nextOf (exec .process (withPkt 0x8000B2280200819C))).toBlock ∧
    (nextOf (exec .process (withPkt 0x8000B2280200819C))).status = ⟨.success, true, false, false⟩ ∧
    decodeInput ⟨false, 3, 0⟩ ≠ .decode :=
  ⟨by constructor <;> decide +kernel, by decide +kernel, by decide⟩
theorem witness_ProcessOnlyHostIsGated_run : usesProcessOnly (recv 0x8000B2280200819C) = true ∧
    (nextOf (drive State.reset (recv 0x8000B2280200819C))).status = ⟨.success, true, false, false⟩ ∧
    State.reset.status.decoded = false := by decide +kernel
theorem witness_ValidRainRateHasValue :
    Inv (nextOf (exec .process (withPkt 0x500A40074000D0FA))).toBlock ∧
    (nextOf (exec .process (withPkt 0x500A40074000D0FA))).rainRate.valid = true :=
  ⟨by constructor <;> decide +kernel, by decide +kernel⟩
-- every valid bit 1: each raw field another one, so that no two values could be swapped unseen
theorem witness_UnknownExactlyWhileInvalid : Inv measuredState.toBlock ∧ measuredState.common.valid = true ∧
    measuredState.goldcap.valid = true ∧ measuredState.rainRate.valid = true ∧ measuredState.solar.valid = true ∧
    measuredState.temp.valid = true ∧ measuredState.gust.valid = true ∧ measuredState.hum.valid = true ∧
    measuredState.rainClk.seeded = true := ⟨by constructor <;> decide +kernel, by decide⟩
theorem test_measurements : (measurements measuredState.toBlock).rainCount = some 10 ∧
    (measurements measuredState.toBlock).rainDiff = some 18 ∧ (measurements Block.reset).rainDiff = none := by decide
theorem witness_RainRateValue : (0x2FF#10 : BitVec 10).toNat % 256 = 255 ∧ (0x3FE#10 : BitVec 10).toNat % 256 ≠ 255 ∧
    (0x3FE#10 : BitVec 10) ≠ 0 := by decide
theorem witness_WindDirectionValue : (127#8 : BitVec 8).toNat ≤ 127 ∧ 128 ≤ (128#8 : BitVec 8).toNat := by decide

end Sys2Proof.Tests.Slice0
end

section
/-! The statements about the state: its reset values, its invariants along a step, its read map, the Measurement set. -/

namespace Sys2Proof.Proofs

open Sys2Proof.Machine Sys2Proof.Safety

/-! ## One step of the block -/

/-- The sample a step takes from the queue is no state of the block (R10). -/
@[simp] theorem sampleInput_toBlock (s : State) : (sampleInput s).2.toBlock = s.toBlock := by
  cases h : s.inputs with
  | nil => rw [sampleInput_nil s h]
  | cons i rest => rw [sampleInput_cons s i rest h]

theorem step_eq_inputResult (s : State) :
    step s = .next (inputResult (sampleInput s).1 (sampleInput s).2) :=
  exec_decodeInput _ _

/-- What holds of the result of every command holds after any sample of the ports. PROCESS stands here as CHECK,
followed by a decoder run where the packet is valid (R86). -/
theorem inputResult_satisfies {P : State → Prop} {s : State}
    (same : P s)
    (store : ∀ p, P (storePacket p s))
    (check : P (setEvent (checkEvent s.pkt) s))
    (decode : P (decoderResult s))
    (process : crcValid s.pkt = true → P (decoderResult (setEvent (checkEvent s.pkt) s)))
    (clrdaily : P (clearDaily s))
    (rsvd7 : P (setCmdErr s))
    (reset : P (resetBlock s))
    (i : Input) : P (inputResult i s) := by
  rcases decodeInput_cases i with h | h | h | h | h | h | h | h | h <;> simp only [inputResult, h]
  · exact same
  · exact store _
  · exact store _
  · exact check
  · exact decode
  · cases hv : crcValid s.pkt
    · simpa [checkEvent, hv] using check
    · simpa [checkEvent, hv] using process hv
  · exact clrdaily
  · exact rsvd7
  · exact reset

/-- What every sample keeps, a step keeps, whatever sample it takes from the queue. -/
theorem step_keeps {P : Block → Prop} {s t : State} (h : step s = .next t)
    (keeps : ∀ (i : Input) (u : State), u.toBlock = s.toBlock → P (inputResult i u).toBlock) : P t.toBlock := by
  rw [step_eq_inputResult] at h
  cases h
  exact keeps _ _ (sampleInput_toBlock s)

/-! ## The invariant of R27 -/

theorem inv_reset : Inv Block.reset := by
  constructor <;> simp [Block.reset]

theorem storePacket_keeps_inv {s : State} (h : Inv s.toBlock) (p : Packet) : Inv (storePacket p s).toBlock :=
  { h with
    success_valid := by simp
    error_invalid := by simp
    div0_decoded := by simp }

theorem check_keeps_inv {s : State} (h : Inv s.toBlock) : Inv (setEvent (checkEvent s.pkt) s).toBlock :=
  { h with
    success_valid := by simp [checkEvent]
    error_invalid := by simp [checkEvent] }

theorem clearDaily_keeps_inv {s : State} (h : Inv s.toBlock) : Inv (clearDaily s).toBlock :=
  { h with
    unseeded_zero := fun hs => ⟨rfl, (h.unseeded_zero hs).2⟩ }

theorem setCmdErr_keeps_inv {s : State} (h : Inv s.toBlock) : Inv (setCmdErr s).toBlock :=
  { h with }

/-- A result register the decoder may write with a valid value still holds zero while it is invalid. -/
theorem onType_zero_of_invalid {w : Nat} (p : Packet) (y : BitVec 4) (v : BitVec w) {r : ResultReg w}
    (h : r.valid = false → r.raw = 0#w) :
    (onType p y ⟨true, v⟩ r).valid = false → (onType p y ⟨true, v⟩ r).raw = 0#w := by
  unfold onType
  split
  · simp
  · exact h

/-- What M5.RAINRATE stores has a value: only the zero divisor has none, and it stores nothing (R118, R119). -/
theorem rainRawField_defined {f : Fields} (h : rainZeroDivisor f = false) :
    (rainRawField f).extractLsb' 0 8 = 0xFF#8 ∨ rainRawField f ≠ 0#10 := by
  have low : (rainRawField f).extractLsb' 0 8 = f.t3 := extract_append_low _ f.t3
  rw [low]
  cases hn : noRain f
  · exact .inr (by simpa [rainZeroDivisor, hn] using h)
  · exact .inl (by simpa [noRain] using hn)

/-- The only ten-bit value above 0x3FE ends in 0xFF: the range R27 gives RR_RAW holds of every value. -/
theorem rainRaw_range (raw : BitVec 10) : raw.extractLsb' 0 8 = 0xFF#8 ∨ raw.toNat ≤ 0x3FE := by
  by_cases hmax : raw = 0x3FF#10
  · exact .inl (by rw [hmax]; rfl)
  · exact .inr (by bv_omega)

theorem decoderResult_rain_defined {s : State} (h : Inv s.toBlock) :
    (decoderResult s).rainRate.valid = true →
      (decoderResult s).rainRate.raw.extractLsb' 0 8 = 0xFF#8 ∨ (decoderResult s).rainRate.raw ≠ 0#10 := by
  simp only [decoderResult, onType]
  split
  · cases hz : rainZeroDivisor s.pkt.fields
    · exact fun _ => rainRawField_defined hz
    · exact h.rain_defined
  · exact h.rain_defined

theorem decoderResult_unseeded_zero {s : State} (h : Inv s.toBlock) :
    (decoderResult s).rainClk.seeded = false →
      (decoderResult s).rainDaily = 0#32 ∧ (decoderResult s).rainTotal = 0#32 ∧
        (decoderResult s).rainClk.diff = 0#7 := by
  simp only [decoderResult, onType]
  split
  · simp
  · exact h.unseeded_zero

theorem decoderResult_keeps_inv {s : State} (h : Inv s.toBlock) : Inv (decoderResult s).toBlock where
  success_valid := h.success_valid
  error_invalid := h.error_invalid
  rain_defined := decoderResult_rain_defined h
  rain_range := rainRaw_range _
  unseeded_zero := decoderResult_unseeded_zero h
  goldcap_zero := onType_zero_of_invalid _ _ _ h.goldcap_zero
  solar_zero := onType_zero_of_invalid _ _ _ h.solar_zero
  temp_zero := onType_zero_of_invalid _ _ _ h.temp_zero
  gust_zero := onType_zero_of_invalid _ _ _ h.gust_zero
  hum_zero := onType_zero_of_invalid _ _ _ h.hum_zero
  common_zero := by simp [decoderResult]
  div0_decoded := fun _ => rfl

/-- Any sample of the ports keeps the invariant. -/
theorem inputResult_keeps_inv (i : Input) {s : State} (h : Inv s.toBlock) : Inv (inputResult i s).toBlock :=
  inputResult_satisfies (P := fun t => Inv t.toBlock)
    (same := h)
    (store := storePacket_keeps_inv h)
    (check := check_keeps_inv h)
    (decode := decoderResult_keeps_inv h)
    (process := fun _ => decoderResult_keeps_inv (check_keeps_inv h))
    (clrdaily := clearDaily_keeps_inv h)
    (rsvd7 := setCmdErr_keeps_inv h)
    (reset := inv_reset)
    i

/-- Settles O51: each command keeps the invariant, and a step runs one command. -/
theorem stepKeepsInvariant : Obligations.StepKeepsInvariant := by
  intro s t hinv hstep
  exact step_keeps hstep fun i u hu => inputResult_keeps_inv i (hu ▸ hinv)

/-- Settles O50. -/
theorem invariantHoldsAtReset : Obligations.InvariantHoldsAtReset := inv_reset

/-! ## CMD_ERR -/

/-- CMD_ERR after a sample: only the reserved code 7 sets it and only a reset clears it (R12, R88). -/
theorem inputResult_cmdErr (i : Input) (s : State) :
    (inputResult i s).status.cmdErr = (!i.rst && (s.status.cmdErr || i.cmd == 7)) := by
  obtain ⟨rst, cmd, w⟩ := i
  cases rst
  case true => simp [inputResult, decodeInput, Block.reset]
  case false =>
    rcases cmd_cases cmd with h | h | h | h | h | h | h | h <;> subst h
    case inr.inr.inr.inr.inr.inl =>
      cases hv : crcValid s.pkt <;> simp [inputResult, decodeInput, decodeCommand, hv]
    all_goals simp [inputResult, decodeInput, decodeCommand]

/-- Settles O14. -/
theorem cmdErrIsSticky : Obligations.CmdErrIsSticky := fun i s =>
  ⟨inputResult i s, exec_decodeInput i s, inputResult_cmdErr i s⟩

/-! ## The rain totals -/

/-- A total that is more than 127 clicks below `2^32` does not wrap. -/
theorem accumulate_toNat_of_lt {total : Total} (h : total.toNat + 127 < 2 ^ 32) (diff : BitVec 7) :
    (accumulate total diff).toNat = total.toNat + diff.toNat := by
  have hdiff : diff.toNat < 128 := diff.isLt
  simp only [accumulate, BitVec.toNat_add, BitVec.toNat_setWidth]
  omega

theorem decoderResult_daily_le_total {s : State} (hle : s.rainDaily.toNat ≤ s.rainTotal.toNat)
    (hwrap : s.rainTotal.toNat + 127 < 2 ^ 32) :
    (decoderResult s).rainDaily.toNat ≤ (decoderResult s).rainTotal.toNat := by
  simp only [decoderResult, onType]
  split
  · rw [accumulate_toNat_of_lt hwrap, accumulate_toNat_of_lt (by omega)]
    omega
  · exact hle

theorem inputResult_daily_le_total (i : Input) {s : State} (hle : s.rainDaily.toNat ≤ s.rainTotal.toNat)
    (hwrap : s.rainTotal.toNat + 127 < 2 ^ 32) :
    (inputResult i s).rainDaily.toNat ≤ (inputResult i s).rainTotal.toNat :=
  inputResult_satisfies (P := fun t => t.rainDaily.toNat ≤ t.rainTotal.toNat)
    (same := hle)
    (store := fun _ => hle)
    (check := hle)
    (decode := decoderResult_daily_le_total hle hwrap)
    (process := fun _ => decoderResult_daily_le_total (s := setEvent (checkEvent s.pkt) s) hle hwrap)
    (clrdaily := Nat.zero_le _)
    (rsvd7 := hle)
    (reset := Nat.le_refl 0)
    i

/-- Settles O52. -/
theorem dailyAtMostTotalUntilWrap : Obligations.DailyAtMostTotalUntilWrap := by
  intro s t hle hwrap hstep
  refine step_keeps (P := fun b => b.rainDaily.toNat ≤ b.rainTotal.toNat) hstep fun i u hu => ?_
  exact inputResult_daily_le_total i (by rw [hu]; exact hle) (by rw [hu]; exact hwrap)

/-! ## The read map -/

/-- Registers 15 to 31 are unmapped (R30). -/
theorem readReg_of_ge (s : Block) (n : BitVec 5) (h : 15 ≤ n.toNat) : readReg s n = 0 := by
  unfold readReg
  split
  case h_16 => rfl
  all_goals exact absurd h (by decide)

/-- Settles O41: the number a word of the read map stands for is the sum of its fields at their positions. -/
theorem readMap : Obligations.ReadMap := by
  intro s
  refine ⟨?_, ?_, ?_, ?_, ?_, ?_, ?_, ?_, ?_, ?_, ?_, ?_, ?_, rfl, rfl, readReg_of_ge s, ?_⟩
  case refine_14 =>
    rintro t n - rfl
    rfl
  all_goals
    simp only [readReg, BitVec.ofNat_eq_ofNat, append_toNat, BitVec.toNat_ofBool, BitVec.toNat_ofNat]
    omega

/-! ## The Measurement set -/

section WhenValid
variable {α : Type} {valid : Bool} {v : α}

theorem whenValid_eq_none : whenValid valid v = none ↔ valid = false := by
  cases valid <;> simp [whenValid]

theorem whenValid_of_valid (h : valid = true) : whenValid valid v = some v := by
  simp [whenValid, h]

end WhenValid

/-- The rain rate has a value wherever R27's invariant lets a valid register be (R144). -/
theorem valRainClicks_of_defined (mode : Bool) {raw : BitVec 10}
    (h : raw.extractLsb' 0 8 = 0xFF#8 ∨ raw ≠ 0#10) : ∃ v, valRainClicks mode raw = some v := by
  unfold valRainClicks
  split_ifs with hmax hzero
  · exact ⟨_, rfl⟩
  · exact absurd hzero (h.resolve_left hmax)
  all_goals exact ⟨_, rfl⟩

/-- Both forms of the rain rate of a state whose rain rate is valid. -/
theorem measurements_rain_of_valid {s : Block} (hinv : Inv s) (hv : s.rainRate.valid = true) :
    ∃ v, valRainClicks s.rainRate.mode s.rainRate.raw = some v ∧
      (measurements s).rainClicksPerHour = some v ∧ (measurements s).rainMmPerHour = some (v / 5) := by
  obtain ⟨v, hval⟩ := valRainClicks_of_defined s.rainRate.mode (hinv.rain_defined hv)
  exact ⟨v, hval, by simp [measurements, hv, hval], by simp [measurements, valRainMmH, hv, hval]⟩

theorem measurements_rain_of_invalid {s : Block} (hv : s.rainRate.valid = false) :
    (measurements s).rainClicksPerHour = none ∧ (measurements s).rainMmPerHour = none := by
  simp [measurements, hv]

theorem measurements_rain_eq_none {s : Block} (hinv : Inv s) :
    ((measurements s).rainClicksPerHour = none ↔ s.rainRate.valid = false) ∧
      ((measurements s).rainMmPerHour = none ↔ s.rainRate.valid = false) := by
  cases hv : s.rainRate.valid
  · simp [measurements_rain_of_invalid hv]
  · obtain ⟨v, -, hclicks, hmm⟩ := measurements_rain_of_valid hinv hv
    simp [hclicks, hmm]

/-- Settles O60: every value but the rain rate is `whenValid` of its own bit; the rain rate needs the invariant. -/
theorem unknownExactlyWhileInvalid : Obligations.UnknownExactlyWhileInvalid := by
  intro s hinv
  obtain ⟨hclicks, hmm⟩ := measurements_rain_eq_none hinv
  exact ⟨whenValid_eq_none, whenValid_eq_none, whenValid_eq_none, whenValid_eq_none, whenValid_eq_none, hclicks, hmm,
    whenValid_eq_none, whenValid_eq_none, whenValid_eq_none, whenValid_eq_none, whenValid_eq_none, whenValid_eq_none,
    whenValid_eq_none,
    fun h => ⟨whenValid_of_valid h, whenValid_of_valid h, whenValid_of_valid h, whenValid_of_valid h⟩,
    whenValid_of_valid, measurements_rain_of_valid hinv, whenValid_of_valid, whenValid_of_valid, whenValid_of_valid,
    whenValid_of_valid,
    fun h => ⟨whenValid_of_valid h, whenValid_of_valid h, whenValid_of_valid h⟩,
    rfl, rfl, rfl, rfl, rfl⟩

/-! ## The reset values -/

/-- A zero byte leaves a CRC register of zero as it is, so zero bytes have CRC 0 (R103). -/
theorem crcByte_zero : crcByte 0#16 0#8 = 0#16 := by decide

theorem crcCalc_reset : crcCalc State.reset.pkt = 0x0000 := by
  simp [crcCalc, coveredBytes_eq, crc16, Block.reset, Config.crcInit, crcByte_zero]

theorem memRead_reset (i : BitVec 8) (h : i.toNat < 8) : memRead State.reset.pkt i = 0x00 := by
  interval_cases hi : i.toNat <;> simp [memRead, hi, Block.reset]

/-- Settles O2. -/
theorem resetStateIsAllZero : Obligations.ResetStateIsAllZero := by
  have hwire : crcWire State.reset.pkt = 0x0000 := rfl
  refine ⟨memRead_reset, rfl, rfl, rfl, rfl, rfl, rfl, rfl, rfl, rfl, rfl, rfl, rfl, crcCalc_reset, hwire,
    ?_, ?_, ?_⟩
  all_goals
    simp only [crcValid, crcMatch, crcNonzero, crcCalc_reset, hwire]
    rfl

end Sys2Proof.Proofs
end

section
/-! The statements about memory: the byte port, the byte reversal of LOADR, and which instructions write PKT. -/

namespace Sys2Proof.Proofs

open Sys2Proof.Machine

/-! ## Which instructions write PKT -/

/-- M5.RAINRATE, by whether the rain-rate divisor is zero (R118, R119). -/
theorem execM5Rainrate_eq (f : Fields) (s : State) :
    execM5Rainrate f s =
      .next (if rainZeroDivisor f then setDiv0 (beginRun 0x5 f s)
        else writeRainRate (rainModeField f) (rainRawField f) (beginRun 0x5 f s)) := by
  unfold execM5Rainrate
  split <;> rfl

/-- The instructions that write PKT are LOAD, LOADR and the reset (R45, R92). A decoder run reads it only. -/
theorem exec_keeps_pkt {i : Instr} {s t : State} (h : exec i s = .next t) (hload : ∀ w, i ≠ .load w)
    (hloadr : ∀ w, i ≠ .loadr w) (hreset : i ≠ .reset) : t.pkt = s.pkt := by
  cases i
  case load w => exact absurd rfl (hload w)
  case loadr w => exact absurd rfl (hloadr w)
  case reset => exact absurd rfl hreset
  case m5Rainrate f =>
    cases (execM5Rainrate_eq f s).symm.trans h
    split <;> rfl
  case decode =>
    cases (runDecoder_eq_result s).symm.trans h
    rfl
  case process =>
    cases (execProcess_eq s).symm.trans h
    split <;> rfl
  all_goals
    cases h
    rfl

/-- Settles O17: the register is kept, so every read of it is. -/
theorem onlyLoadsAndResetWritePkt : Obligations.OnlyLoadsAndResetWritePkt := by
  intro i s t h hload hloadr hreset a
  rw [exec_keeps_pkt h hload hloadr hreset]

/-! ## The byte reversal -/

/-- Settles O6: the bytes of the word LOAD is given are the reversed bytes themselves. -/
theorem loadrIsLoadOfReversedBytes : Obligations.LoadrIsLoadOfReversedBytes := by
  intro s w
  have hbytes : loadOperand (reverseEachByte (Packet.ofWord w)).toWord = loadrOperand w := Packet.ofWord_toWord _
  show execLoadr w s = execLoad _ s
  rw [execLoadr, execLoad, hbytes]

theorem rev8_getLsbD (b : Byte) {i : Nat} (hi : i < 8) : (rev8 b).getLsbD i = b.getLsbD (7 - i) := by
  simp only [rev8, BitVec.getLsbD_append, BitVec.getLsbD_ofBool]
  interval_cases i <;> simp

/-- The number of the reversed byte, bit by bit: the leftmost bit put together is bit 0 of `b` (R43). -/
theorem rev8_toNat (b : Byte) :
    (rev8 b).toNat = ((List.range 8).map fun i => (b.getLsbD i).toNat * 2 ^ (7 - i)).sum := by
  simp only [rev8, append_toNat, BitVec.toNat_ofBool, List.range_succ, List.range_zero, List.nil_append,
    List.map_append, List.map_cons, List.map_nil, List.sum_append, List.sum_cons, List.sum_nil]
  omega

theorem rev8_rev8 (b : Byte) : rev8 (rev8 b) = b := by
  refine BitVec.eq_of_getLsbD_eq fun i hi => ?_
  calc (rev8 (rev8 b)).getLsbD i
      = (rev8 b).getLsbD (7 - i) := rev8_getLsbD _ hi
    _ = b.getLsbD (7 - (7 - i)) := rev8_getLsbD b (by omega)
    _ = b.getLsbD i := by rw [show 7 - (7 - i) = i by omega]

/-- Settles O7. -/
theorem byteReversalIsInvolution : Obligations.ByteReversalIsInvolution := fun b =>
  ⟨fun _ => rev8_getLsbD b, rev8_toNat b, rev8_rev8 b⟩

/-! ## The byte port -/

/-- Settles O40: the port shows `memRead`, which is the sentinel beyond the packet (R46). -/
theorem bytePort : Obligations.BytePort := fun s _ =>
  ⟨rfl, rfl, rfl, rfl, rfl, rfl, rfl, rfl, memRead_of_ge s.pkt⟩

end Sys2Proof.Proofs
end

section
/-! The statements about the encodings: packets and port samples as codes, the fields of a packet, the line encoding, and
the packet mnemonics of a listing. -/

namespace Sys2Proof.Proofs

open Sys2Proof.Machine Sys2Proof.Safety

/-! ## The type map -/

theorem messageParts_messageInstr (y : BitVec 4) (f : Fields) : messageParts (messageInstr y f) = some (y, f) := by
  rcases msgType_cases y with h | h | h | h | h | h | h | h | h | h | h | h | h | h | h | h <;> subst h <;> rfl

theorem encode_messageInstr (y : BitVec 4) (f : Fields) : encode (messageInstr y f) = packetCode y f := by
  rcases msgType_cases y with h | h | h | h | h | h | h | h | h | h | h | h | h | h | h | h <;> subst h <;> rfl

/-- Between the type and the fields below it and the packet word no bit is lost (R55, R60). -/
theorem decode_packetCode (y : BitVec 4) (f : Fields) : decode (packetCode y f) = messageInstr y f := by
  rw [packetCode, decode, Packet.ofWord_toWord, decodePacket, Fields.packet_msgType, Fields.packet_fields]

/-- Byte 0 put together again from `TYPE`, `BATT` and the three unused bits (R56). -/
theorem headByte_parts (b : Byte) :
    b.extractLsb' 4 4 ++ BitVec.ofBool (b.getLsbD 3) ++ b.extractLsb' 0 3 = b := by
  revert b; decide

/-- The packet made of the type and the fields of a packet is that packet (R55). -/
theorem packet_msgType_fields (p : Packet) : p.fields.packet p.msgType = p := by
  simp only [Fields.packet, Packet.fields, Packet.msgType, headByte_parts, extract_append_high p.d6 p.d7,
    extract_append_low p.d6 p.d7]

theorem encode_decodePacket (p : Packet) : encode (decodePacket p) = .packet p.toWord := by
  rw [decodePacket, encode_messageInstr, packetCode, packet_msgType_fields]

theorem encode_decode_packet (w : PacketWord) : encode (decode (.packet w)) = .packet w := by
  rw [decode, encode_decodePacket, Packet.toWord_ofWord]

/-! ## Port samples -/

theorem canonical_reset {c : BitVec 3} {w : PacketWord} :
    Input.canonical ⟨true, c, w⟩ = true ↔ c = 0 ∧ w = 0 := by
  simp [Input.canonical]

theorem canonical_command {c : BitVec 3} {w : PacketWord} :
    Input.canonical ⟨false, c, w⟩ = true ↔ takesOperand c = true ∨ w = 0 := by
  simp [Input.canonical, takesOperand]

/-- A command that takes no operand is encoded with operand zero (R70). -/
theorem encode_decodeCommand {c : BitVec 3} {w : PacketWord} (h : takesOperand c = true ∨ w = 0) :
    encode (decodeCommand c w) = commandCode c w := by
  rcases h with hc | rfl
  · obtain rfl | rfl : c = 1 ∨ c = 2 := by simpa [takesOperand] using hc
    all_goals rfl
  · rcases cmd_cases c with h | h | h | h | h | h | h | h <;> subst h <;> rfl

theorem encode_decodeInput {i : Input} (h : i.canonical = true) : encode (decodeInput i) = .ports i := by
  obtain ⟨rst, c, w⟩ := i
  cases rst
  case true =>
    obtain ⟨rfl, rfl⟩ := canonical_reset.mp h
    rfl
  case false => exact encode_decodeCommand (canonical_command.mp h)

/-! ## The round trips between instructions and codes -/

theorem decode_encode (i : Instr) : decode (encode i) = i := by
  cases i
  case nop | load | loadr | check | decode | process | clrdaily | rsvd7 | reset => rfl
  all_goals exact decode_packetCode _ _

/-- Settles O46. -/
theorem decodeEncodeRoundTrip : Obligations.DecodeEncodeRoundTrip := fun i _ => decode_encode i

theorem encode_decode {c : Code} (h : c.canonical = true) : encode (decode c) = c := by
  cases c with
  | packet w => exact encode_decode_packet w
  | ports i => exact encode_decodeInput h

/-- `TYPE` is the four top bits of the packet word (R55, R56). -/
theorem msgType_ofWord (w : PacketWord) : (Packet.ofWord w).msgType = w.extractLsb' 60 4 := by
  ext i hi
  simp only [Packet.msgType, Packet.ofWord, BitVec.getElem_extractLsb', BitVec.getLsbD_extractLsb']
  simp only [show 4 + i < 8 by omega, decide_true, Bool.true_and, ← Nat.add_assoc]

theorem messageParts_decode_packet (w : PacketWord) :
    messageParts (decode (.packet w)) = some (w.extractLsb' 60 4, (Packet.ofWord w).fields) := by
  rw [decode, decodePacket, messageParts_messageInstr, msgType_ofWord]

/-- Settles O47. -/
theorem encodeDecodeRoundTrip : Obligations.EncodeDecodeRoundTrip :=
  ⟨fun _ => encode_decode, fun w => ⟨encode_decode_packet w, _, messageParts_decode_packet w⟩⟩

/-- Settles O45. -/
theorem sampleWordsDecode : Obligations.SampleWordsDecode := by
  refine ⟨?_, ?_, ?_, ?_, rfl, rfl, rfl⟩ <;> decide

/-! ## The fields of a packet -/

/-- The number of a field cut from a word: the bits below it divided off, those above it reduced away. -/
theorem extract_toNat {w : Nat} (b : BitVec w) (k n : Nat) :
    (b.extractLsb' k n).toNat = b.toNat / 2 ^ k % 2 ^ n := by
  rw [BitVec.extractLsb'_toNat, Nat.shiftRight_eq_div_pow]

theorem getLsbD_toNat {w : Nat} (b : BitVec w) (k : Nat) : (b.getLsbD k).toNat = b.toNat / 2 ^ k % 2 := by
  rw [BitVec.getLsbD, Nat.toNat_testBit]

/-- The mask 0x30 of R58's printed expression for RR_RAW keeps bits 5 and 4. -/
theorem and_0x30_toNat (b : Byte) : (b &&& 0x30#8).toNat = b.toNat / 16 % 4 * 16 := by
  revert b; decide

/-- The mask 0x7F of R58's printed expression for COUNT keeps the seven low bits. -/
theorem and_0x7F_toNat (b : Byte) : (b &&& 0x7F#8).toNat = b.toNat % 128 :=
  Nat.and_two_pow_sub_one_eq_mod b.toNat 7

/-- Settles O31: a field is put together from parts of bytes, and each part is a quotient and a remainder. -/
theorem fieldAssembly : Obligations.FieldAssembly := by
  intro p
  have h0 : p.d0.toNat < 256 := p.d0.isLt
  have h4 : p.d4.toNat < 256 := p.d4.isLt
  refine ⟨?_, ?_, rfl, rfl, ?_, ?_, ?_, ?_, ?_, ?_, rfl, ?_, ?_, ?_, ?_, ?_⟩
  all_goals
    simp only [Packet.msgType, Packet.fields, goldcapField, rainRawField, rainModeField, solarField, tempField, humField,
      countField, crcWire, append_toNat, extract_toNat, getLsbD_toNat, and_0x30_toNat, and_0x7F_toNat]
    omega

/-! ## The line encoding -/

theorem hexValue_hexChar {n : Nat} (h : n < 16) : hexValue (hexChar n) = some n := by
  interval_cases n <;> rfl

/-- The letter of RESET is no hexadecimal digit, so the first character of a line tells RESET from a command (R73). -/
theorem hexChar_ne_R {n : Nat} (h : n < 16) : hexChar n ≠ 'R' := by
  intro heq
  have hR : hexValue 'R' = none := rfl
  rw [← heq, hexValue_hexChar h] at hR
  cases hR

theorem writeHex_length (n k : Nat) : (writeHex n k).length = k := by
  induction k with
  | zero => rfl
  | succ k ih => rw [writeHex, List.length_cons, ih]

/-- The digits written of `n`, read after `acc`: `acc` moves up by their count. -/
theorem readHex_writeHex (n k acc : Nat) : readHex acc (writeHex n k) = some (acc * 16 ^ k + n % 16 ^ k) := by
  induction k generalizing acc with
  | zero => simp [writeHex, readHex, Nat.mod_one]
  | succ k ih =>
    rw [writeHex, readHex, hexValue_hexChar (Nat.mod_lt _ (by decide))]
    have hsplit : n % 16 ^ (k + 1) = n % 16 ^ k + 16 ^ k * (n / 16 ^ k % 16) := by
      rw [pow_succ, Nat.mod_mul]
    simp only [ih, hsplit]
    congr 1
    ring

theorem decodeLineOperand_writeHex (c : BitVec 3) (w : PacketWord) :
    decodeLineOperand c (':' :: writeHex w.toNat 16) = .ok ⟨false, c, w⟩ := by
  have hread : readHex 0 (writeHex w.toNat 16) = some w.toNat := by
    rw [readHex_writeHex, Nat.zero_mul, Nat.zero_add, Nat.mod_eq_of_lt (show w.toNat < 16 ^ 16 from w.isLt)]
  simp [decodeLineOperand, writeHex_length, hread]

/-- A line that begins with an octal digit, read by the command code the digit stands for (R73). -/
theorem decodeLine_command (c : BitVec 3) (rest : List Char) :
    decodeLine (hexChar c.toNat :: rest) =
      if takesOperand c then decodeLineOperand c rest
      else if rest = [] then .ok ⟨false, c, 0⟩ else .error .trailing := by
  have hc : c.toNat < 8 := c.isLt
  have hdigit : hexValue (hexChar c.toNat) = some c.toNat := hexValue_hexChar (by omega)
  simp [decodeLine, hexChar_ne_R (show c.toNat < 16 by omega), hdigit, Nat.not_le.mpr hc]

/-- Settles O48. -/
theorem lineEncodingRoundTrip : Obligations.LineEncodingRoundTrip := by
  rintro ⟨rst, c, w⟩ h
  cases rst
  case true =>
    obtain ⟨rfl, rfl⟩ := canonical_reset.mp h
    rfl
  case false =>
    have hzero := canonical_command.mp h
    cases hop : takesOperand c
    · obtain rfl : w = 0 := hzero.resolve_left (by simp [hop])
      simp [encodeLine, decodeLine_command, hop]
    · simp [encodeLine, decodeLine_command, hop, decodeLineOperand_writeHex]

/-! ## The packet mnemonics -/

/-- A sealed packet carries the CRC of its six covered bytes on the wire (R74, R102). -/
theorem crcMatch_sealPacket (m : SixBytes) : crcMatch (sealPacket m) = true := by
  have hwire : crcWire (sealPacket m) = crcCalc (sealPacket m) := append_extract (n := 8) (m := 8) _
  rw [crcMatch, hwire, beq_self_eq_true]

/-- A packet whose byte 0 is made for type `y` decodes to that type. -/
theorem decodePacket_of_headByte {p : Packet} {y : BitVec 4} {batt : Bool} (h : p.d0 = headByte y batt) :
    decodePacket p = messageInstr y p.fields := by
  rw [decodePacket, Packet.msgType, h, headByte, headByte_type]

theorem batt_of_headByte {p : Packet} {y : BitVec 4} {batt : Bool} (h : p.d0 = headByte y batt) :
    p.fields.batt = batt := by
  rw [Packet.fields, h, headByte, headByte_batt]

/-- What the seven mnemonics share: the operands common to every type, and a type-specific value `v` that the field
assembly reads back out of the six bytes. -/
theorem sealed_decodes {α : Type} {m : SixBytes} (y : BitVec 4) {batt : Bool} {field : Fields → α} {v : α}
    (hhead : m.b0 = headByte y batt) (hfield : field (sealPacket m).fields = v) :
    ∃ f, decodePacket (sealPacket m) = messageInstr y f ∧ field f = v ∧
      f.batt = batt ∧ f.wspd = m.b1 ∧ f.wdir = m.b2 :=
  ⟨(sealPacket m).fields, decodePacket_of_headByte hhead, hfield, batt_of_headByte hhead, rfl, rfl⟩

section Fields
variable (batt : Bool) (s d : Byte)

/-- The ten-bit fields of sub-format F-TOP10, cut into `d3` and the two top bits of `d4` (R58, R74). -/
theorem top10_parts (g : BitVec 10) :
    g.extractLsb' 2 8 ++ (g.extractLsb' 0 2 ++ 0#6).extractLsb' 6 2 = g := by
  rw [extract_append_high]
  exact append_extract (n := 8) (m := 2) g

theorem goldcapField_mkGoldcap (g : BitVec 10) :
    goldcapField (sealPacket (mkGoldcap batt s d g)).fields = g :=
  top10_parts g

theorem solarField_mkSolar (v : BitVec 10) : solarField (sealPacket (mkSolar batt s d v)).fields = v :=
  top10_parts v

theorem rainRawField_mkRainrate (mode : Bool) (raw : BitVec 10) :
    rainRawField (sealPacket (mkRainrate batt s d mode raw)).fields = raw := by
  have high : (0#1 ++ BitVec.ofBool mode ++ raw.extractLsb' 8 2 ++ 0#4).extractLsb' 4 2 = raw.extractLsb' 8 2 :=
    (extract_append_above _ 0#4 0 2).trans (extract_append_low _ _)
  show (0#1 ++ BitVec.ofBool mode ++ raw.extractLsb' 8 2 ++ 0#4).extractLsb' 4 2 ++ raw.extractLsb' 0 8 = raw
  rw [high]
  exact append_extract (n := 2) (m := 8) raw

theorem rainModeField_mkRainrate (mode : Bool) (raw : BitVec 10) :
    rainModeField (sealPacket (mkRainrate batt s d mode raw)).fields = mode := by
  show (0#1 ++ BitVec.ofBool mode ++ raw.extractLsb' 8 2 ++ 0#4).getLsbD 6 = mode
  simp only [BitVec.getLsbD_append, BitVec.getLsbD_ofBool]
  rfl

theorem tempField_mkTemp (v : BitVec 16) : tempField (sealPacket (mkTemp batt s d v)).fields = v :=
  append_extract (n := 8) (m := 8) v

theorem humField_mkHum (v : BitVec 12) : humField (sealPacket (mkHum batt s d v)).fields = v := by
  show (v.extractLsb' 8 4 ++ 0#4).extractLsb' 4 4 ++ v.extractLsb' 0 8 = v
  rw [extract_append_high]
  exact append_extract (n := 4) (m := 8) v

theorem countField_mkRainclk (v : BitVec 7) : countField (sealPacket (mkRainclk batt s d v)).fields = v :=
  extract_append_low 0#1 v

end Fields

/-- Settles O49. -/
theorem packetMnemonicsInvertAssembly : Obligations.PacketMnemonicsInvertAssembly :=
  ⟨fun batt s d =>
    ⟨fun g => sealed_decodes 0x2 rfl (goldcapField_mkGoldcap batt s d g),
      fun mode raw => ⟨_, decodePacket_of_headByte (y := 0x5) rfl, rainRawField_mkRainrate batt s d mode raw,
        rainModeField_mkRainrate batt s d mode raw, batt_of_headByte (y := 0x5) rfl, rfl, rfl⟩,
      fun v => sealed_decodes 0x7 rfl (solarField_mkSolar batt s d v),
      fun v => sealed_decodes 0x8 rfl (tempField_mkTemp batt s d v),
      fun _ => sealed_decodes 0x9 (field := gustField) rfl rfl,
      fun v => sealed_decodes 0xA rfl (humField_mkHum batt s d v),
      fun v => sealed_decodes 0xE rfl (countField_mkRainclk batt s d v)⟩,
    crcMatch_sealPacket,
    fun _ => ⟨rfl, rfl, rfl⟩⟩

end Sys2Proof.Proofs
end

section
/-! The statements about the host commands: what each writes and leaves, how DECODE and PROCESS run the decoder, and a
host that uses PROCESS only. -/

namespace Sys2Proof.Proofs

open Sys2Proof.Machine Sys2Proof.Safety

/-! ## What a command answers -/

/-- CHECK records the outcome of the validity test (R84). -/
theorem exec_check (s : State) : exec .check s = .next (setEvent (checkEvent s.pkt) s) := rfl

/-- DECODE is one decoder run, whatever the CRC (R85). -/
theorem exec_decode (s : State) : exec .decode s = .next (decoderResult s) := runDecoder_eq_result s

theorem checkEvent_of_valid {p : Packet} (h : crcValid p = true) : checkEvent p = .success := by
  simp [checkEvent, h]

theorem checkEvent_of_invalid {p : Packet} (h : crcValid p = false) : checkEvent p = .crcError := by
  simp [checkEvent, h]

/-- Every packet is either valid or not: CHECK never records NONE (R162). -/
theorem checkEvent_ne_none (p : Packet) : checkEvent p ≠ .none := by
  unfold checkEvent
  split <;> simp

/-- PROCESS on a valid packet runs the decoder where CHECK leaves off (R86). -/
theorem exec_process_of_valid {s : State} (h : crcValid s.pkt = true) :
    exec .process s = .next (decoderResult (setEvent (checkEvent s.pkt) s)) := by
  show execProcess s = _
  rw [execProcess_eq, if_pos h, checkEvent_of_valid h]

/-- PROCESS on an invalid packet stops after the test (R86). -/
theorem exec_process_of_invalid {s : State} (h : crcValid s.pkt = false) :
    exec .process s = .next (setEvent (checkEvent s.pkt) s) := by
  show execProcess s = _
  rw [execProcess_eq, if_neg (by simp [h]), checkEvent_of_invalid h]

/-! ## NOP -/

/-- Settles O3. -/
theorem nopChangesNothing : Obligations.NopChangesNothing := fun _ _ => ⟨rfl, rfl⟩

/-! ## LOAD and LOADR -/

/-- Byte `i` of a packet word, read through the byte port (R46, R55). -/
theorem memRead_ofWord (w : PacketWord) {i : BitVec 8} (h : i.toNat < 8) :
    memRead (Packet.ofWord w) i = w.extractLsb' (56 - 8 * i.toNat) 8 := by
  interval_cases hi : i.toNat <;> simp [memRead, hi, Packet.ofWord]

theorem memRead_reverseEachByte (p : Packet) {i : BitVec 8} (h : i.toNat < 8) :
    memRead (reverseEachByte p) i = rev8 (memRead p i) := by
  interval_cases hi : i.toNat <;> simp [memRead, hi, reverseEachByte]

/-- Beyond the packet the byte port shows the same sentinel, whatever PKT holds (R46). -/
theorem memRead_sentinel (p q : Packet) {i : BitVec 8} (h : 8 ≤ i.toNat) : memRead p i = memRead q i := by
  rw [memRead_of_ge p i h, memRead_of_ge q i h]

/-- Settles O4. -/
theorem loadStoresTrueBytes : Obligations.LoadStoresTrueBytes := fun s w =>
  ⟨loadOperand w, rfl, fun _ => memRead_ofWord w, fun _ => memRead_sentinel _ s.pkt⟩

theorem memRead_loadrOperand_getLsbD (w : PacketWord) {i : BitVec 8} (hi : i.toNat < 8) {j : Nat} (hj : j < 8) :
    (memRead (loadrOperand w) i).getLsbD j = w.getLsbD (56 - 8 * i.toNat + (7 - j)) := by
  have hrev : 7 - j < 8 := by omega
  rw [loadrOperand, memRead_reverseEachByte _ hi, memRead_ofWord w hi, rev8_getLsbD _ hj, BitVec.getLsbD_extractLsb',
    decide_eq_true hrev, Bool.true_and]

/-- Settles O5. -/
theorem loadrStoresReversedBytes : Obligations.LoadrStoresReversedBytes := fun s w =>
  ⟨loadrOperand w, rfl, fun _ hi _ hj => memRead_loadrOperand_getLsbD w hi hj, fun _ => memRead_sentinel _ s.pkt⟩

/-! ## CHECK -/

/-- The all-zero packet of the reset state has CRC 0, so it is not accepted (R103). -/
theorem crcValid_reset : crcValid State.reset.pkt = false := by
  rw [crcValid, crcNonzero, crcCalc_reset]
  exact Bool.and_false _

theorem setEvent_event (e : Event) (s : State) : (setEvent e s).status.event = e := rfl

/-- Settles O9: CHECK reads PKT alone and does not write it, so a second one records the same. -/
theorem checkRecordsValidity : Obligations.CheckRecordsValidity := by
  refine ⟨fun _ => rfl, ?repeated, _, exec_check _, (setEvent_event _ _).trans (checkEvent_of_invalid crcValid_reset)⟩
  intro s t h
  cases h
  rfl

/-! ## DECODE -/

/-- The decoder run is the message type of the packet in PKT (R13, R111). -/
theorem exec_decode_eq_exec_decodePacket (s : State) : exec .decode s = exec (decodePacket s.pkt) s := by
  show runDecoder s = exec (messageInstr s.pkt.msgType s.pkt.fields) s
  unfold runDecoder
  rcases msgType_cases s.pkt.msgType with h | h | h | h | h | h | h | h | h | h | h | h | h | h | h | h <;>
    rw [h] <;> rfl

/-- Settles O10. -/
theorem decodeRunsMessageTypeInPkt : Obligations.DecodeRunsMessageTypeInPkt := by
  refine ⟨fun s => ⟨exec_decode_eq_exec_decodePacket s, decoderResult s, exec_decode s, ?_⟩, ?_⟩
  · exact ⟨decoderResult_pkt s, decoderResult_event s, decoderResult_cmdErr s, decoderResult_decoded s⟩
  · rw [exec_decode]
    rfl

/-! ## PROCESS -/

/-- Settles O11. -/
theorem processIsCheckThenDecode : Obligations.ProcessIsCheckThenDecode := by
  intro s
  constructor
  · intro h
    exact ⟨_, _, exec_check s, exec_decode _, exec_process_of_valid h, checkEvent_of_valid h, rfl⟩
  · intro h
    refine ⟨exec_process_of_invalid h, ?_⟩
    rw [exec_process_of_invalid h, checkEvent_of_invalid h]
    rfl

/-! ## CLRDAILY -/

/-- Settles O12: the difference is computed from RAINCLK, which CLRDAILY keeps, and added to a daily total of 0. -/
theorem clrdailyClearsDailyTotalOnly : Obligations.ClrdailyClearsDailyTotalOnly := by
  refine fun s => ⟨rfl, fun f => ⟨_, _, rfl, rfl, rfl, rfl, ?_⟩⟩
  have hsum := accumulate_toNat_of_lt (total := 0) (by decide) (rainDiff s.rainClk (countField f))
  exact hsum.trans (Nat.zero_add _)

/-! ## The reserved code -/

/-- CMD_ERR is bit 4 of read register 0 (R30). -/
theorem readReg_zero_cmdErr (b : Block) : (readReg b 0).getLsbD 4 = b.status.cmdErr := by
  simp only [readReg, BitVec.ofNat_eq_ofNat, BitVec.getLsbD_append, BitVec.getLsbD_ofBool]
  rfl

/-- A set CMD_ERR outlasts every sample without `rst` (R88). -/
theorem inputResult_cmdErr_of_set {i : Input} {s : State} (hset : s.status.cmdErr = true) (hrst : i.rst = false) :
    (inputResult i s).status.cmdErr = true := by
  simp [inputResult_cmdErr, hset, hrst]

/-- Settles O13. -/
theorem reservedCodeSetsCmdErr : Obligations.ReservedCodeSetsCmdErr := fun s _ =>
  ⟨rfl, rfl, readReg_zero_cmdErr _,
    fun hset i hrst => ⟨_, exec_decodeInput i s, inputResult_cmdErr_of_set hset hrst⟩,
    ⟨_, rfl, rfl⟩⟩

/-! ## Every sample -/

/-- Settles O15. -/
theorem everyInputHasNextState : Obligations.EveryInputHasNextState :=
  ⟨fun _ => ⟨rfl, rfl, rfl, rfl, rfl, rfl, rfl, rfl⟩, fun _ _ => rfl, fun i s => ⟨_, exec_decodeInput i s⟩⟩

/-! ## The write-set table -/

theorem sameResults_storePacket (p : Packet) (s : State) : SameResults s.toBlock (storePacket p s).toBlock := by
  constructor <;> rfl

theorem sameResults_setEvent (e : Event) (s : State) : SameResults s.toBlock (setEvent e s).toBlock := by
  constructor <;> rfl

/-- The column of PROCESS in R89's table: DECODE's after CHECK's on a valid packet, CHECK's on an invalid one. -/
theorem exec_process_writes (s : State) :
    ∃ t, exec .process s = .next t ∧ (∀ a, memRead t.pkt a = memRead s.pkt a) ∧ t.status.event ≠ .none ∧
      t.status.cmdErr = s.status.cmdErr ∧
      (crcValid s.pkt = true → t.status.decoded = true ∧ t.common.valid = true) ∧
      (crcValid s.pkt = false → SameResults s.toBlock t.toBlock ∧
        t.status = { s.status with event := t.status.event }) := by
  have hevent : checkEvent s.pkt ≠ .none := checkEvent_ne_none s.pkt
  cases hv : crcValid s.pkt
  case true =>
    exact ⟨_, exec_process_of_valid hv, fun _ => rfl, hevent, rfl, fun _ => ⟨rfl, rfl⟩, by simp⟩
  case false =>
    exact ⟨_, exec_process_of_invalid hv, fun _ => rfl, hevent, rfl, by simp, fun _ => ⟨sameResults_setEvent _ s, rfl⟩⟩

/-- Settles O16, column by column. -/
theorem commandWriteSets : Obligations.CommandWriteSets := by
  intro s
  refine ⟨?nop, ?load, ?loadr, ?check, ?decode, exec_process_writes s, ?clrdaily, ?rsvd7, ?reset⟩
  case nop | clrdaily | rsvd7 | reset => exact ⟨_, rfl, rfl⟩
  case load | loadr => exact fun w => ⟨_, rfl, sameResults_storePacket _ s, rfl⟩
  case check => exact ⟨_, exec_check s, sameResults_setEvent _ s, fun _ => rfl, checkEvent_ne_none s.pkt, rfl⟩
  case decode => exact ⟨_, exec_decode s, fun _ => rfl, rfl, rfl⟩

/-! ## A host that uses PROCESS only -/

/-- A packet marked decoded has EVENT = SUCCESS: what R188 asks of a host, as a property of the state. -/
def Gated (b : Block) : Prop := b.status.decoded = true → b.status.event = .success

theorem gated_of_not_decoded {b : Block} (h : b.status.decoded = false) : Gated b :=
  fun hdecoded => absurd hdecoded (by simp [h])

/-- Under R27's invariant a packet marked decoded in a gated state is a valid one. -/
theorem crcValid_of_gated {b : Block} (hinv : Inv b) (hgate : Gated b) (h : b.status.decoded = true) :
    crcValid b.pkt = true :=
  hinv.success_valid (hgate h)

/-- A packet marked decoded is valid, so CHECK records SUCCESS again. -/
theorem check_keeps_gated {s : State} (hinv : Inv s.toBlock) (hgate : Gated s.toBlock) :
    Gated (setEvent (checkEvent s.pkt) s).toBlock :=
  fun h => checkEvent_of_valid (crcValid_of_gated hinv hgate h)

/-- The decoder run of PROCESS is gated by its own test (R86). -/
theorem process_keeps_gated {s : State} (hinv : Inv s.toBlock) (hgate : Gated s.toBlock) :
    Gated (if crcValid s.pkt then decoderResult (setEvent .success s) else setEvent .crcError s).toBlock := by
  split
  case isTrue => exact fun _ => rfl
  case isFalse hinvalid => exact fun h => absurd (crcValid_of_gated hinv hgate h) hinvalid

/-- Only DECODE can mark a packet decoded that has not been checked. -/
theorem inputResult_keeps_gated {i : Input} {s : State} (hinv : Inv s.toBlock) (hgate : Gated s.toBlock)
    (hdecode : decodeInput i ≠ .decode) : Gated (inputResult i s).toBlock := by
  rcases decodeInput_cases i with h | h | h | h | h | h | h | h | h <;> simp only [inputResult, h]
  · exact hgate
  · exact gated_of_not_decoded rfl
  · exact gated_of_not_decoded rfl
  · exact check_keeps_gated hinv hgate
  · exact absurd h hdecode
  · exact process_keeps_gated hinv hgate
  · exact hgate
  · exact hgate
  · exact gated_of_not_decoded rfl

theorem stepOn_eq_inputResult (i : Input) (s : State) : stepOn i s = .next (inputResult i s) := exec_decodeInput i s

/-- A run goes on from the state its first sample leaves (R80). -/
theorem drive_cons (i : Input) (is : List Input) (s : State) : drive s (i :: is) = drive (inputResult i s) is := by
  rw [drive, stepOn_eq_inputResult]

theorem usesProcessOnly_cons {i : Input} {is : List Input} (h : usesProcessOnly (i :: is) = true) :
    decodeInput i ≠ .decode ∧ usesProcessOnly is = true := by
  simpa [usesProcessOnly] using h

/-- A run without DECODE ends in a gated state of the invariant. -/
theorem drive_keeps_gated {is : List Input} {s : State} (hinv : Inv s.toBlock) (hgate : Gated s.toBlock)
    (honly : usesProcessOnly is = true) : ∃ t, drive s is = .next t ∧ Inv t.toBlock ∧ Gated t.toBlock := by
  induction is generalizing s with
  | nil => exact ⟨s, rfl, hinv, hgate⟩
  | cons i is ih =>
    obtain ⟨hdecode, hrest⟩ := usesProcessOnly_cons honly
    rw [drive_cons]
    exact ih (inputResult_keeps_inv i hinv) (inputResult_keeps_gated hinv hgate hdecode) hrest

/-- Settles O54: what a sample or a run without DECODE leaves is gated, and a gated state of the invariant is valid. -/
theorem processOnlyHostIsGated : Obligations.ProcessOnlyHostIsGated := by
  constructor
  · intro i s hinv hgate hdecode
    have hinv' := inputResult_keeps_inv i hinv
    have hgate' := inputResult_keeps_gated hinv hgate hdecode
    exact ⟨_, stepOn_eq_inputResult i s, hinv', fun h => ⟨hgate' h, crcValid_of_gated hinv' hgate' h⟩⟩
  · intro is s hinv hgate honly
    obtain ⟨t, hrun, hinv', hgate'⟩ := drive_keeps_gated hinv hgate honly
    exact ⟨t, hrun, hinv', fun h => ⟨hgate' h, crcValid_of_gated hinv' hgate' h⟩⟩

end Sys2Proof.Proofs
end

section
/-! The statements about the CRC: its two forms, its linearity, the residue of a sequence with its CRC appended, and what
follows for packets: the validity rule, the zero rule, and single-bit errors. -/

namespace Sys2Proof.Proofs

open Sys2Proof.Machine

/-! ## The register under shifts -/

/-- A byte enters at the top and is followed by eight shifts (R100). -/
theorem crcByte_eq_iterate (c : Crc) (b : Byte) : crcByte c b = crcShift^[8] (c ^^^ b.setWidth 16 <<< 8) := rfl

theorem crcShift_iterate_xor (n : ℕ) (a b : Crc) :
    crcShift^[n] (a ^^^ b) = crcShift^[n] a ^^^ crcShift^[n] b :=
  Function.Semiconj₂.iterate crcShift_xor n a b

theorem crcShift_iterate_zero (n : ℕ) : crcShift^[n] 0#16 = 0#16 :=
  Function.iterate_fixed rfl n

theorem crcShift_of_msb_false {c : Crc} (h : c.msb = false) : crcShift c = c <<< 1 := by
  simp [crcShift, h]

/-- No shift loses the last bit set: a bit that leaves the register sets bit 0, since the polynomial is odd. -/
theorem eq_zero_of_crcShift_eq_zero {c : Crc} (h : crcShift c = 0#16) : c = 0#16 := by
  cases hmsb : c.msb
  case true =>
    have hbit : (crcShift c).getLsbD 0 = true := by simp [crcShift, hmsb, Config.crcPoly]
    simp [h] at hbit
  case false =>
    rw [crcShift_of_msb_false hmsb] at h
    have hlt := BitVec.msb_eq_false_iff_two_mul_lt.mp hmsb
    bv_omega

theorem crcShift_injective : Function.Injective crcShift := fun a b h =>
  BitVec.xor_eq_zero_iff.mp <| eq_zero_of_crcShift_eq_zero <| by rw [crcShift_xor, h, BitVec.xor_self]

theorem crcShift_iterate_eq_zero {n : ℕ} {c : Crc} : crcShift^[n] c = 0#16 ↔ c = 0#16 := by
  rw [← crcShift_iterate_zero n, (crcShift_injective.iterate n).eq_iff, crcShift_iterate_zero]

/-! ## The two forms of the CRC (R100) -/

/-- Bits already put in at the top, or fed one by one as they leave: the first bit of `x` is fed, the others move up. -/
theorem crcShift_xor_eq_crcBit (c x : Crc) : crcShift (c ^^^ x) = crcBit c x.msb ^^^ x <<< 1 := by
  simp only [crcShift, crcBit, BitVec.msb_xor, BitVec.shiftLeft_xor_distrib]
  split
  · rw [BitVec.xor_assoc, BitVec.xor_comm (x <<< 1), ← BitVec.xor_assoc]
  · rfl

/-- After `n` shifts the `n` top bits of `x` are fed, and the others stand at the top. -/
theorem crcShift_iterate_xor_eq_foldl (n : ℕ) (c x : Crc) :
    crcShift^[n] (c ^^^ x) = ((List.range n).map x.getMsbD).foldl crcBit c ^^^ x <<< n := by
  induction n with
  | zero => simp
  | succ n ih =>
    rw [Function.iterate_succ_apply', ih, crcShift_xor_eq_crcBit, BitVec.msb_shiftLeft, ← BitVec.shiftLeft_add]
    simp [List.range_succ]

/-- The bits of a byte put in at the top of the register, as they leave it. -/
theorem top_byte_bits (b : Byte) : (List.range 8).map (b.setWidth 16 <<< 8).getMsbD = bitsMsbFirst b := by
  simp [List.range_succ, bitsMsbFirst, BitVec.getMsbD_eq_getLsbD]

theorem crcByte_eq_foldl_crcBit (c : Crc) (b : Byte) : crcByte c b = (bitsMsbFirst b).foldl crcBit c := by
  have hout : (b.setWidth 16 <<< 8) <<< 8 = 0#16 := by
    rw [← BitVec.shiftLeft_add]
    exact BitVec.shiftLeft_eq_zero (by decide)
  rw [crcByte_eq_iterate, crcShift_iterate_xor_eq_foldl, top_byte_bits, hout, BitVec.xor_zero]

theorem crc16_eq_crc16Bitwise (bs : List Byte) : crc16 bs = crc16Bitwise bs := by
  rw [crc16, crc16Bitwise, List.foldl_flatMap]
  congr 1
  funext c b
  exact crcByte_eq_foldl_crcBit c b

/-- Settles O34: the functions the statement writes out are `crcShift`, `crcBit` and `bitsMsbFirst`. -/
theorem crcBytewiseEqualsBitwise : Obligations.CrcBytewiseEqualsBitwise :=
  ⟨crc16_nil, crc16_concat, crc16_eq_crc16Bitwise, crc16_eq_crc16Bitwise⟩

/-! ## Linearity (R106) -/

theorem crcByte_xor (c d : Crc) (a b : Byte) : crcByte (c ^^^ d) (a ^^^ b) = crcByte c a ^^^ crcByte d b := by
  simp only [crcByte_eq_iterate, ← crcShift_iterate_xor, BitVec.setWidth_xor, BitVec.shiftLeft_xor_distrib]
  congr 1
  ac_rfl

/-- Linearity from any two registers on, byte by byte. -/
theorem foldl_crcByte_xor {a b : List Byte} (h : a.length = b.length) (c d : Crc) :
    (List.zipWith (· ^^^ ·) a b).foldl crcByte (c ^^^ d) = a.foldl crcByte c ^^^ b.foldl crcByte d := by
  induction a generalizing b c d with
  | nil =>
    obtain rfl := List.length_eq_zero_iff.mp h.symm
    rfl
  | cons x as ih =>
    obtain ⟨y, bs, rfl⟩ := List.exists_cons_of_length_eq_add_one h.symm
    rw [List.zipWith_cons_cons, List.foldl_cons, crcByte_xor]
    exact ih (Nat.succ.inj h) _ _

/-- The register starts at zero, which is zero exclusive-or zero. -/
theorem crc16_xor {a b : List Byte} (h : a.length = b.length) :
    crc16 (List.zipWith (· ^^^ ·) a b) = crc16 a ^^^ crc16 b :=
  foldl_crcByte_xor h 0#16 0#16

/-- Settles O36. -/
theorem crcIsLinear : Obligations.CrcIsLinear := fun _ _ => crc16_xor

/-! ## The residue (R105) -/

/-- A byte at the bottom of the register moves to the top in eight shifts: nothing leaves it. -/
theorem crcShift_iterate_low_byte (b : Byte) : crcShift^[8] (b.setWidth 16) = b.setWidth 16 <<< 8 := by
  have up : ∀ n ≤ 8, crcShift^[n] (b.setWidth 16) = b.setWidth 16 <<< n := by
    intro n hn
    induction n with
    | zero => simp
    | succ n ih =>
      have hmsb : (b.setWidth 16 <<< n).msb = false := by
        simp [BitVec.msb_shiftLeft, BitVec.getMsbD_eq_getLsbD, BitVec.getLsbD_of_ge b (15 - n) (by omega)]
      rw [Function.iterate_succ_apply', ih (by omega), crcShift_of_msb_false hmsb, BitVec.shiftLeft_add]
  exact up 8 le_rfl

/-- Two bytes put together, as the two positions of the register. -/
theorem append_eq_xor (hi lo : Byte) : hi ++ lo = hi.setWidth 16 <<< 8 ^^^ lo.setWidth 16 := by
  ext i hi
  simp only [BitVec.getElem_append, BitVec.getElem_xor, BitVec.getElem_shiftLeft, BitVec.getElem_setWidth]
  by_cases h : i < 8
  · simp [h]
  · simp [h, BitVec.getLsbD_of_ge lo i (by omega), BitVec.getLsbD_eq_getElem (show i - 8 < 8 by omega)]

/-- Two bytes are fed as one 16-bit word. -/
theorem crcByte_crcByte (c : Crc) (hi lo : Byte) : crcByte (crcByte c hi) lo = crcShift^[16] (c ^^^ (hi ++ lo)) := by
  simp only [crcByte_eq_iterate]
  rw [← crcShift_iterate_low_byte lo, ← crcShift_iterate_xor, ← Function.iterate_add_apply, append_eq_xor,
    BitVec.xor_assoc]

/-- Two more bytes bring the register to zero exactly when they are what it holds. -/
theorem crc16_append_pair_eq_zero (m : List Byte) (hi lo : Byte) :
    crc16 (m ++ [hi, lo]) = 0x0000 ↔ crc16 m = hi ++ lo := by
  have hpair : crc16 (m ++ [hi, lo]) = crcShift^[16] (crc16 m ^^^ (hi ++ lo)) := by
    rw [← crcByte_crcByte, ← crc16_concat, ← crc16_concat, List.append_assoc, List.singleton_append]
  rw [hpair]
  exact crcShift_iterate_eq_zero.trans BitVec.xor_eq_zero_iff

theorem crcMatch_iff {p : Packet} : crcMatch p = true ↔ crcCalc p = crcWire p := by
  rw [crcMatch, beq_iff_eq]

theorem crc16_packetBytes_eq_zero {p : Packet} : crc16 (packetBytes p) = 0x0000 ↔ crcMatch p = true :=
  (crc16_append_pair_eq_zero (coveredBytes p) p.d6 p.d7).trans crcMatch_iff.symm

/-- Settles O35. -/
theorem crcResidueIsZero : Obligations.CrcResidueIsZero :=
  ⟨fun m => (crc16_append_pair_eq_zero m _ _).mpr (append_extract (n := 8) (m := 8) _).symm,
    fun _ => crc16_packetBytes_eq_zero⟩

/-! ## The validity rule (R102) -/

theorem crcNonzero_iff {p : Packet} : crcNonzero p = true ↔ crcCalc p ≠ 0x0000 := by
  simp [crcNonzero]

theorem crcValid_iff {p : Packet} : crcValid p = true ↔ crcMatch p = true ∧ crcCalc p ≠ 0x0000 := by
  rw [crcValid, Bool.and_eq_true, crcNonzero_iff]

/-- PROCESS records what CHECK does, on a packet of either kind (R86). -/
theorem exec_process_event (s : State) :
    ∃ t, exec .process s = .next t ∧ t.status.event = checkEvent s.pkt := by
  cases hv : crcValid s.pkt
  case true => exact ⟨_, exec_process_of_valid hv, rfl⟩
  case false => exact ⟨_, exec_process_of_invalid hv, rfl⟩

/-- Settles O8. -/
theorem packetValidityRule : Obligations.PacketValidityRule := by
  constructor
  · intro p
    refine ⟨congrArg crc16 (coveredBytes_eq p), append_toNat p.d6 p.d7, crcMatch_iff, crcNonzero_iff, ?_⟩
    rw [← crcMatch_iff]
    exact crcValid_iff
  · intro s
    obtain ⟨u, hu, hevent⟩ := exec_process_event s
    exact ⟨_, u, exec_check s, hu, rfl, hevent⟩

/-! ## Sealed packets (R107) -/

/-- Settles O38: a sealed packet matches, so its validity turns on the zero rule alone. -/
theorem sealedPacketIsValid : Obligations.SealedPacketIsValid := fun m =>
  ⟨crcValid_iff.trans (and_iff_right (crcMatch_sealPacket m)), rfl⟩

/-! ## The zero rule (R103) -/

theorem crcValid_of_crcCalc_eq_zero {p : Packet} (h : crcCalc p = 0x0000) : crcValid p = false :=
  Bool.eq_false_iff.mpr fun hv => (crcValid_iff.mp hv).2 h

theorem exec_process_event_of_crcCalc_eq_zero {s : State} (h : crcCalc s.pkt = 0x0000) :
    ∃ t, exec .process s = .next t ∧ t.status.event = .crcError := by
  rw [← checkEvent_of_invalid (crcValid_of_crcCalc_eq_zero h)]
  exact exec_process_event s

theorem crcMatch_reset : crcMatch State.reset.pkt = true := crcMatch_iff.mpr crcCalc_reset

/-- Settles O39: the packet of the reset state is the all-zero one, and `d4`, `d5` bring the register to zero exactly when
they are what it holds. -/
theorem zeroCrcIsNeverAccepted : Obligations.ZeroCrcIsNeverAccepted := by
  refine ⟨fun p h => ⟨crcValid_of_crcCalc_eq_zero h, ?process⟩, crcMatch_reset, crcValid_reset, ?choice⟩
  case process =>
    rintro s rfl
    exact exec_process_event_of_crcCalc_eq_zero h
  case choice =>
    intro d0 d1 d2 d3 d4 d5
    exact (crc16_append_pair_eq_zero [d0, d1, d2, d3] d4 d5).trans eq_comm

/-! ## Single-bit errors (R106) -/

theorem packetBytes_ofWord_xor (v w : PacketWord) :
    packetBytes (Packet.ofWord (v ^^^ w)) =
      List.zipWith (· ^^^ ·) (packetBytes (Packet.ofWord v)) (packetBytes (Packet.ofWord w)) := by
  simp [packetBytes, Packet.ofWord, BitVec.extractLsb'_xor]

theorem crc16_packetBytes_ofWord_xor (v w : PacketWord) :
    crc16 (packetBytes (Packet.ofWord (v ^^^ w))) =
      crc16 (packetBytes (Packet.ofWord v)) ^^^ crc16 (packetBytes (Packet.ofWord w)) :=
  (congrArg crc16 (packetBytes_ofWord_xor v w)).trans (crc16_xor rfl)

/-- Of two packets that match, the bits in which they differ match, too. -/
theorem crcMatch_of_xor {v w : PacketWord} (hv : crcMatch (Packet.ofWord v) = true)
    (hxor : crcMatch (Packet.ofWord (v ^^^ w)) = true) : crcMatch (Packet.ofWord w) = true := by
  rw [← crc16_packetBytes_eq_zero] at *
  rw [crc16_packetBytes_ofWord_xor, hv] at hxor
  exact BitVec.zero_xor.symm.trans hxor

/-- Zero bits only shift the register. -/
theorem foldl_crcBit_replicate_false (n : ℕ) (c : Crc) :
    (List.replicate n false).foldl crcBit c = crcShift^[n] c := by
  induction n generalizing c with
  | zero => rfl
  | succ n ih =>
    have hbit : crcBit c false = crcShift c := by simp [crcBit, crcShift]
    rw [List.replicate_succ, List.foldl_cons, ih, hbit, Function.iterate_succ_apply]

/-- One message bit among zeros leaves the register nonzero, wherever it stands. -/
theorem foldl_crcBit_one_bit_ne_zero (m n : ℕ) :
    (List.replicate m false ++ true :: List.replicate n false).foldl crcBit 0#16 ≠ 0#16 := by
  rw [List.foldl_append, List.foldl_cons, foldl_crcBit_replicate_false, foldl_crcBit_replicate_false,
    crcShift_iterate_zero, ne_eq, crcShift_iterate_eq_zero]
  decide

/-- The message bits of a packet are those of its word, most significant first (R7). -/
theorem message_bits_ofWord (w : PacketWord) :
    (packetBytes (Packet.ofWord w)).flatMap bitsMsbFirst = (List.range 64).map w.getMsbD := by
  simp [packetBytes, Packet.ofWord, bitsMsbFirst, List.range_succ, BitVec.getMsbD_eq_getLsbD]

theorem getMsbD_one_shiftLeft {k i : ℕ} (hk : k < 64) (hi : i < 64) :
    (1#64 <<< k).getMsbD i = decide (i = 63 - k) := by
  rw [Bool.eq_iff_iff]
  simp only [BitVec.getMsbD_eq_getLsbD, BitVec.getLsbD_shiftLeft, BitVec.getLsbD_one, Bool.and_eq_true,
    Bool.not_eq_true', decide_eq_true_eq, decide_eq_false_iff_not]
  omega

/-- The word with bit `k` alone set, most significant bit first. -/
theorem message_bits_one_bit {k : ℕ} (hk : k < 64) :
    (List.range 64).map (1#64 <<< k).getMsbD = List.replicate (63 - k) false ++ true :: List.replicate k false := by
  refine List.ext_getElem (by simp; omega) fun i hi _ => ?_
  replace hi : i < 64 := by simpa using hi
  rw [List.getElem_map, List.getElem_range, getMsbD_one_shiftLeft hk hi]
  rcases lt_trichotomy i (63 - k) with h | rfl | h
  · simp [h, h.ne]
  · simp
  · simp [List.getElem_append, List.getElem_cons, h.ne', Nat.not_lt.mpr h.le, Nat.sub_ne_zero_of_lt h]

theorem crcMatch_one_bit {k : ℕ} (hk : k < 64) : crcMatch (Packet.ofWord (1#64 <<< k)) ≠ true := by
  rw [ne_eq, ← crc16_packetBytes_eq_zero, crc16_eq_crc16Bitwise, crc16Bitwise, message_bits_ofWord,
    message_bits_one_bit hk]
  exact foldl_crcBit_one_bit_ne_zero _ _

/-- Settles O37: were both packets valid, the flipped bit alone would match. -/
theorem singleBitErrorIsDetected : Obligations.SingleBitErrorIsDetected := by
  intro w k hk hvalid
  refine Bool.eq_false_iff.mpr fun hflipped => crcMatch_one_bit hk ?_
  exact crcMatch_of_xor (crcValid_iff.mp hvalid).1 (crcValid_iff.mp hflipped).1

end Sys2Proof.Proofs
end

section
/-! The statements about the decoder: what each message type writes and leaves, when DIV0 is set and how long it lasts, the
rain clicks, the bits a decoder run reads, and a second run on the same packet. -/

namespace Sys2Proof.Proofs

open Sys2Proof.Machine Sys2Proof.Safety

/-! ## A message type as a decoder run -/

/-- A message-type instruction is the one its type and fields select (R60). -/
theorem eq_messageInstr {i : Instr} {y : BitVec 4} {f : Fields} (h : messageParts i = some (y, f)) :
    i = messageInstr y f := by
  cases i
  case nop | load | loadr | check | decode | process | clrdaily | rsvd7 | reset => cases h
  all_goals
    cases h
    rfl

/-- A message type neither reads nor writes PKT: its fields come with the instruction. -/
theorem exec_message_of_exec_withPkt {i : Instr} {y : BitVec 4} {f : Fields} {s t : State} {p : Packet}
    (hi : messageParts i = some (y, f)) (h : exec i { s with pkt := p } = .next t) :
    exec i s = .next { t with pkt := s.pkt } := by
  cases i
  case nop | load | loadr | check | decode | process | clrdaily | rsvd7 | reset => cases hi
  case m5Rainrate f =>
    cases (execM5Rainrate_eq f _).symm.trans h
    refine (execM5Rainrate_eq f s).trans ?_
    split <;> rfl
  all_goals
    cases h
    rfl

/-- A message type writes what the decoder run on its packet writes. -/
theorem exec_message {i : Instr} {y : BitVec 4} {f : Fields} (h : messageParts i = some (y, f)) (s : State) :
    exec i s = .next { decoderResult { s with pkt := f.packet y } with pkt := s.pkt } := by
  refine exec_message_of_exec_withPkt (p := f.packet y) h ?_
  rw [← exec_decode, exec_decode_eq_exec_decodePacket, decodePacket, Fields.packet_msgType, Fields.packet_fields,
    ← eq_messageInstr h]

theorem onType_of_ne {α : Type} {p : Packet} {y : BitVec 4} (h : p.msgType ≠ y) (v old : α) :
    onType p y v old = old :=
  if_neg h

/-- The packet made of type `y` selects no write of another type (R111). -/
theorem onType_packet_of_ne {α : Type} {f : Fields} {y z : BitVec 4} (h : y ≠ z) (v old : α) :
    onType (f.packet y) z v old = old :=
  onType_of_ne (by rwa [Fields.packet_msgType]) v old

theorem onType_of_eq {α : Type} {p : Packet} {y : BitVec 4} (h : p.msgType = y) (v old : α) :
    onType p y v old = v :=
  if_pos h

/-! ## The common fields and the registers not selected -/

/-- Settles O20: the decoder run on the packet made of the type and the fields writes them into COMMON. -/
theorem everyMessageTypeWritesCommonFields : Obligations.EveryMessageTypeWritesCommonFields := by
  constructor
  · intro i y f s h
    refine ⟨_, exec_message h s, ?_, rfl, rfl, rfl, rfl⟩
    simp only [decoderResult, Fields.packet_msgType, Fields.packet_fields]
  · exact fun p => ⟨messageParts_messageInstr p.msgType p.fields, rfl, rfl, rfl⟩

/-- Settles O21: the decoder run writes a type-specific register only on a packet of its type. -/
theorem otherResultRegistersAreKept : Obligations.OtherResultRegistersAreKept := by
  intro i y f s t hi h
  cases (exec_message hi s).symm.trans h
  have kept {α : Type} {z : BitVec 4} {v old : α} (hy : y ≠ z) : onType (f.packet y) z v old = old :=
    onType_packet_of_ne hy v old
  exact ⟨kept, kept, kept, kept, kept, kept, fun hy => ⟨kept hy, kept hy, kept hy⟩, kept, fun _ => rfl, rfl, rfl⟩

/-- Settles O22: a type without output is `beginRun` alone. -/
theorem typesWithoutOutputWriteCommonOnly : Obligations.TypesWithoutOutputWriteCommonOnly := by
  rintro i y f s (⟨rfl, rfl⟩ | ⟨rfl, rfl⟩ | ⟨rfl, rfl⟩ | ⟨rfl, rfl⟩ | ⟨rfl, rfl⟩ | ⟨rfl, rfl⟩ | ⟨rfl, rfl⟩ |
    ⟨rfl, rfl⟩ | ⟨rfl, rfl⟩) <;> rfl

/-! ## The types of one raw field -/

/-- The number of a field of sub-format F-TOP10 (R58). -/
theorem top10_toNat (a b : Byte) : (a ++ b.extractLsb' 6 2).toNat = a.toNat * 4 + b.toNat / 64 := by
  have hb : b.toNat < 256 := b.isLt
  rw [append_toNat, extract_toNat]
  omega

/-- The number of a field of sub-format F-LOW12 (R58). -/
theorem humField_toNat (f : Fields) : (humField f).toNat = f.t4.toNat / 16 * 256 + f.t3.toNat := by
  have hb : f.t4.toNat < 256 := f.t4.isLt
  rw [humField, append_toNat, extract_toNat]
  omega

/-- Settles O23. -/
theorem goldcapResult : Obligations.GoldcapResult := fun f _ => ⟨goldcapField f, top10_toNat f.t3 f.t4, rfl⟩

/-- Settles O26. -/
theorem solarResult : Obligations.SolarResult := fun f _ => ⟨solarField f, top10_toNat f.t3 f.t4, rfl⟩

/-- Settles O27. -/
theorem tempResult : Obligations.TempResult := fun f _ => ⟨tempField f, append_toNat f.t3 f.t4, rfl⟩

/-- Settles O28. -/
theorem gustResult : Obligations.GustResult := fun _ _ => rfl

/-- Settles O29. -/
theorem humResult : Obligations.HumResult := fun f _ => ⟨humField f, humField_toNat f, rfl⟩

/-! ## The rain rate and its zero divisor -/

/-- The number of a field of sub-format F-RAIN (R58). -/
theorem rainRawField_toNat (f : Fields) : (rainRawField f).toNat = f.t3.toNat + f.t4.toNat / 16 % 4 * 256 := by
  rw [rainRawField, append_toNat, extract_toNat]
  omega

theorem rainZeroDivisor_of_noRain {f : Fields} (h : f.t3 = 255) : rainZeroDivisor f = false := by
  rw [rainZeroDivisor, noRain, h]
  rfl

theorem rainZeroDivisor_of_raw_ne_zero {f : Fields} (h : (rainRawField f).toNat ≠ 0) : rainZeroDivisor f = false := by
  have hraw : rainRawField f ≠ 0#10 := fun h0 => h (congrArg BitVec.toNat h0)
  simp [rainZeroDivisor, hraw]

theorem rainZeroDivisor_of_parts {f : Fields} (hlow : f.t3 = 0x00) (hhigh : f.t4.extractLsb' 4 2 = 0) :
    rainZeroDivisor f = true := by
  have hraw : rainRawField f = 0#10 := by
    rw [rainRawField, hlow, hhigh]
    rfl
  rw [rainZeroDivisor, noRain, hraw, hlow]
  rfl

/-- Settles O24: neither form of the hypothesis is the zero divisor. -/
theorem rainrateStores : Obligations.RainrateStores := by
  intro f s h
  have hstores : rainZeroDivisor f = false := by
    rcases h with hnone | hraw
    · exact rainZeroDivisor_of_noRain hnone
    · exact rainZeroDivisor_of_raw_ne_zero (by rwa [rainRawField_toNat])
  refine ⟨rainRawField f, rainRawField_toNat f, (execM5Rainrate_eq f s).trans ?_⟩
  rw [hstores]
  rfl

/-- Settles O25: DIV0 is written by nothing but a store of PKT, a reset and a decoder run. -/
theorem rainrateZeroDivisor : Obligations.RainrateZeroDivisor := by
  refine ⟨?run, ?process, ?lasts, ?cleared, ?noValue⟩
  case run =>
    intro f s hlow hhigh
    refine (execM5Rainrate_eq f s).trans ?_
    rw [if_pos (rainZeroDivisor_of_parts hlow hhigh)]
    rfl
  case process =>
    intro s hvalid htype hlow hhigh
    have hzero : rainZeroDivisor s.pkt.fields = true := rainZeroDivisor_of_parts hlow hhigh
    refine ⟨_, exec_process_of_valid hvalid, ?status, ?rainRate, ?common⟩
    case status =>
      simp only [decoderResult, setEvent_pkt, setEvent_status, onType_of_eq htype, hzero, checkEvent_of_valid hvalid]
    case rainRate => exact (onType_of_eq htype _ _).trans (if_pos hzero)
    case common => simp only [decoderResult, setEvent_pkt, htype, Packet.fields]
  case lasts =>
    rintro ⟨rst, c, w⟩ s hdiv0 hrst h
    obtain rfl : rst = false := hrst
    rcases h with (rfl : c = 0) | (rfl : c = 3) | (rfl : c = 6) | (rfl : c = 7) | ⟨(rfl : c = 5), hinvalid⟩
    case inr.inr.inr.inr => exact ⟨_, exec_process_of_invalid hinvalid, hdiv0⟩
    all_goals exact ⟨_, rfl, hdiv0⟩
  case cleared =>
    rintro ⟨rst, c, w⟩ s h
    cases rst
    case true => exact ⟨_, rfl, rfl⟩
    case false =>
      rcases h with h | (rfl : c = 1) | (rfl : c = 2)
      · cases h
      all_goals exact ⟨_, rfl, rfl⟩
  case noValue => exact fun _ => rfl

/-! ## The rain clicks -/

theorem countField_toNat (f : Fields) : (countField f).toNat = f.t3.toNat % 128 := by
  rw [countField, extract_toNat, pow_zero, Nat.div_one]
  rfl

theorem rainDiff_of_unseeded {r : RainClk} (h : r.seeded = false) (count : BitVec 7) : rainDiff r count = 0#7 :=
  if_pos h

theorem rainDiff_toNat_of_le {r : RainClk} {count : BitVec 7} (hs : r.seeded = true)
    (h : r.count.toNat ≤ count.toNat) : (rainDiff r count).toNat = count.toNat - r.count.toNat := by
  have hcount : count.toNat < 128 := count.isLt
  rw [rainDiff, if_neg (by simp [hs]), if_pos h, BitVec.toNat_ofNat]
  omega

theorem rainDiff_toNat_of_lt {r : RainClk} {count : BitVec 7} (hs : r.seeded = true)
    (h : count.toNat < r.count.toNat) : (rainDiff r count).toNat = count.toNat + 128 - r.count.toNat := by
  have hprev : r.count.toNat < 128 := r.count.isLt
  rw [rainDiff, if_neg (by simp [hs]), if_neg (by omega), BitVec.toNat_ofNat, Config.rainMod]
  omega

/-- Both cases of the difference are one difference modulo 128 (R124). -/
theorem rainDiff_toNat_eq_mod {r : RainClk} {count : BitVec 7} (hs : r.seeded = true) :
    (rainDiff r count).toNat = (count.toNat + 128 - r.count.toNat) % 128 := by
  have hcount : count.toNat < 128 := count.isLt
  have hprev : r.count.toNat < 128 := r.count.isLt
  rcases le_or_gt r.count.toNat count.toNat with h | h
  · rw [rainDiff_toNat_of_le hs h]
    omega
  · rw [rainDiff_toNat_of_lt hs h]
    omega

/-- A total wraps modulo `2^32` (R25, R26). -/
theorem accumulate_toNat (total : Total) (diff : BitVec 7) :
    (accumulate total diff).toNat = (total.toNat + diff.toNat) % 2 ^ 32 := by
  rw [accumulate, BitVec.toNat_add, BitVec.toNat_setWidth_of_le (by decide)]

/-- Settles O30. -/
theorem rainclkResult : Obligations.RainclkResult := fun f _ =>
  ⟨countField f, _, countField_toNat f, fun hs => congrArg BitVec.toNat (rainDiff_of_unseeded hs _),
    rainDiff_toNat_of_le, rainDiff_toNat_of_lt, rainDiff_toNat_eq_mod,
    _, _, accumulate_toNat _ _, accumulate_toNat _ _, rfl⟩

/-! ## Two runs compared field by field -/

theorem state_ext {s t : State} (pkt : s.pkt = t.pkt) (status : s.status = t.status) (common : s.common = t.common)
    (goldcap : s.goldcap = t.goldcap) (rainRate : s.rainRate = t.rainRate) (solar : s.solar = t.solar)
    (temp : s.temp = t.temp) (gust : s.gust = t.gust) (hum : s.hum = t.hum) (rainClk : s.rainClk = t.rainClk)
    (rainDaily : s.rainDaily = t.rainDaily) (rainTotal : s.rainTotal = t.rainTotal) (inputs : s.inputs = t.inputs) :
    s = t := by
  obtain ⟨⟨_, _, _, _, _, _, _, _, _, _, _, _⟩, _⟩ := s
  obtain ⟨⟨_, _, _, _, _, _, _, _, _, _, _, _⟩, _⟩ := t
  congr

/-! ## The bits a decoder run reads -/

/-- A write selected by the type is the same for two packets of one type whose values agree where it is selected. -/
theorem onType_congr {α : Type} {p q : Packet} {y : BitVec 4} {v w : α} (htype : q.msgType = p.msgType)
    (h : p.msgType = y → w = v) (old : α) : onType q y w old = onType p y v old := by
  by_cases hy : p.msgType = y
  · rw [onType_of_eq hy, onType_of_eq (htype.trans hy), h hy]
  · rw [onType_of_ne hy, onType_of_ne (htype ▸ hy)]

/-- RR_RAW and RR_MODE are cut from `d3` and the three bits `d4[6:4]` (R57, R58). -/
theorem rain_fields_of_used_bits {p q : Packet}
    (h : q.d3 = p.d3 ∧ q.d4.extractLsb' 4 3 = p.d4.extractLsb' 4 3) :
    q.fields.t3 = p.fields.t3 ∧ rainRawField q.fields = rainRawField p.fields ∧
      rainModeField q.fields = rainModeField p.fields := by
  obtain ⟨h3, h4⟩ := h
  have low (b : Byte) : (b.extractLsb' 4 3).extractLsb' 0 2 = b.extractLsb' 4 2 := by
    revert b; decide
  have top (b : Byte) : (b.extractLsb' 4 3).getLsbD 2 = b.getLsbD 6 := by
    revert b; decide
  refine ⟨h3, congrArg₂ (· ++ ·) ?raw h3, ?mode⟩
  case raw => exact (low q.d4).symm.trans ((congrArg _ h4).trans (low p.d4))
  case mode => exact (top q.d4).symm.trans ((congrArg (·.getLsbD 2) h4).trans (top p.d4))

/-- A decoder run reads no unused bit (R113). GOLDCAP and SOLAR are cut alike (F-TOP10), so `top10` serves both. -/
theorem decoderResult_of_sameUsedBits {p q : Packet} (h : SameUsedBits p q) (s : State) :
    decoderResult { s with pkt := q } = { decoderResult { s with pkt := p } with pkt := q } := by
  have htype : q.msgType = p.msgType := h.type_eq
  have top10 (hy : p.msgType = 0x2 ∨ p.msgType = 0x7) : goldcapField q.fields = goldcapField p.fields := by
    obtain ⟨h3, h4⟩ := h.top10 hy
    exact congrArg₂ (· ++ ·) h3 h4
  have temp (hy : p.msgType = 0x8) : tempField q.fields = tempField p.fields := by
    obtain ⟨h3, h4⟩ := h.word hy
    exact congrArg₂ (· ++ ·) h3 h4
  have hum (hy : p.msgType = 0xA) : humField q.fields = humField p.fields := by
    obtain ⟨h3, h4⟩ := h.low12 hy
    exact congrArg₂ (· ++ ·) h4 h3
  have count (hy : p.msgType = 0xE) : countField q.fields = countField p.fields := h.cnt7 hy
  have zero (hy : p.msgType = 0x5) : rainZeroDivisor q.fields = rainZeroDivisor p.fields := by
    obtain ⟨hd3, hraw, -⟩ := rain_fields_of_used_bits (h.rain hy)
    simp only [rainZeroDivisor, noRain, hd3, hraw]
  refine state_ext (pkt := rfl) (inputs := rfl) (status := ?status) (common := ?common)
    (goldcap := onType_congr htype (fun hy => congrArg (ResultReg.mk true) (top10 (.inl hy))) _)
    (rainRate := onType_congr htype ?rainRate _)
    (solar := onType_congr htype (fun hy => congrArg (ResultReg.mk true) (top10 (.inr hy))) _)
    (temp := onType_congr htype (fun hy => congrArg (ResultReg.mk true) (temp hy)) _)
    (gust := onType_congr htype (fun hy => congrArg (ResultReg.mk true) (h.byte hy)) _)
    (hum := onType_congr htype (fun hy => congrArg (ResultReg.mk true) (hum hy)) _)
    (rainClk := onType_congr htype (fun hy => by rw [count hy]) _)
    (rainDaily := onType_congr htype (fun hy => by rw [count hy]) _)
    (rainTotal := onType_congr htype (fun hy => by rw [count hy]) _)
  case status => simp only [decoderResult, onType_congr htype zero]
  case common => simp only [decoderResult, htype, Packet.fields, h.batt_eq, h.wspd_eq, h.wdir_eq]
  case rainRate =>
    intro hy
    obtain ⟨-, hraw, hmode⟩ := rain_fields_of_used_bits (h.rain hy)
    rw [zero hy, hraw, hmode]

/-- Settles O32: DECODE is the decoder run on either packet. -/
theorem unusedBitsHaveNoEffect : Obligations.UnusedBitsHaveNoEffect := fun s _ _ h =>
  ⟨_, exec_decode _, (exec_decode _).trans (congrArg _ (decoderResult_of_sameUsedBits h s))⟩

/-! ## A second run on the same packet -/

/-- A command that runs the decoder records an EVENT first: PROCESS records SUCCESS, DECODE leaves EVENT as it was. -/
theorem exec_decoding {a : Instr} {s : State} (h : a = .decode ∨ a = .process ∧ crcValid s.pkt = true) :
    ∃ e, exec a s = .next (decoderResult (setEvent e s)) ∧ (a = .decode → e = s.status.event) ∧
      (a = .process → e = .success) := by
  rcases h with rfl | ⟨rfl, hvalid⟩
  · exact ⟨s.status.event, exec_decode s, fun _ => rfl, nofun⟩
  · exact ⟨checkEvent s.pkt, exec_process_of_valid hvalid, nofun, fun _ => checkEvent_of_valid hvalid⟩

/-- The same count once more is no click (R116). -/
theorem rainDiff_same (count diff : BitVec 7) : rainDiff ⟨true, count, diff⟩ count = 0#7 := by
  simp [rainDiff]

theorem accumulate_zero (total : Total) : accumulate total 0#7 = total := by
  simp [accumulate]

/-- A second run that selects the value the first one wrote leaves it as it is. -/
theorem onType_onType {α : Type} {p : Packet} {y : BitVec 4} {v w : α} (h : p.msgType = y → w = v) (old : α) :
    onType p y w (onType p y v old) = onType p y v old := by
  by_cases hy : p.msgType = y
  · rw [onType_of_eq hy, onType_of_eq hy, h hy]
  · rw [onType_of_ne hy]

/-- EVENT decides nothing in a run, and a second run stores what the first one left, but for the difference: it compares
the count with itself (R116). -/
theorem decoderResult_decoderResult (s : State) (e : Event) :
    decoderResult (setEvent e (decoderResult s)) =
      { decoderResult s with
        status := { (decoderResult s).status with event := e }
        rainClk :=
          if s.pkt.msgType = 0xE then { (decoderResult s).rainClk with diff := 0 } else (decoderResult s).rainClk } := by
  have clk (hy : s.pkt.msgType = 0xE) :
      (decoderResult s).rainClk = ⟨true, countField s.pkt.fields, rainDiff s.rainClk (countField s.pkt.fields)⟩ :=
    onType_of_eq hy _ _
  have noClick (hy : s.pkt.msgType = 0xE) : rainDiff (decoderResult s).rainClk (countField s.pkt.fields) = 0#7 := by
    rw [clk hy, rainDiff_same]
  have total (hy : s.pkt.msgType = 0xE) (old v : Total) :
      accumulate (onType s.pkt 0xE v old) (rainDiff (decoderResult s).rainClk (countField s.pkt.fields)) = v := by
    rw [noClick hy, accumulate_zero, onType_of_eq hy]
  refine state_ext (pkt := rfl) (inputs := rfl) (status := rfl) (common := rfl)
    (goldcap := onType_onType (fun _ => rfl) _)
    (rainRate := onType_onType ?rainRate _)
    (solar := onType_onType (fun _ => rfl) _)
    (temp := onType_onType (fun _ => rfl) _)
    (gust := onType_onType (fun _ => rfl) _)
    (hum := onType_onType (fun _ => rfl) _)
    (rainClk := ?rainClk)
    (rainDaily := onType_onType (fun hy => total hy _ _) _)
    (rainTotal := onType_onType (fun hy => total hy _ _) _)
  case rainRate =>
    intro hy
    by_cases hzero : rainZeroDivisor s.pkt.fields = true
    · exact (if_pos hzero).trans (onType_of_eq hy _ _)
    · exact (if_neg hzero).trans (if_neg hzero).symm
  case rainClk =>
    split
    case isTrue hy =>
      refine (onType_of_eq hy _ _).trans ?_
      rw [clk hy]
      exact congrArg _ (noClick hy)
    case isFalse hy => exact onType_of_ne hy _ _

/-- Settles O33: either command is a decoder run after it has recorded its EVENT. -/
theorem decodingAgainChangesOnlyRainDiff : Obligations.DecodingAgainChangesOnlyRainDiff := by
  intro s a b ha hb
  obtain ⟨e, hfirst, -, -⟩ := exec_decoding ha
  obtain ⟨e', hsecond, hdecode, hprocess⟩ := exec_decoding (s := decoderResult (setEvent e s)) hb
  exact ⟨_, _, hfirst, hsecond, decoderResult_decoderResult (setEvent e s) e', hdecode, hprocess⟩

end Sys2Proof.Proofs
end

section
/-! The statements about the engineering values: each `val_*` function's closed form and its range, and where the rain rate
has a value. -/

namespace Sys2Proof.Proofs

open Sys2Proof.Machine Sys2Proof.Safety

/-! ## The rain rate -/

/-- Settles O55. -/
theorem validRainRateHasValue : Obligations.ValidRainRateHasValue :=
  fun _ => measurements_rain_of_valid

/-- The model's test for the source's `data[3] == 255`, in numbers (R144). -/
theorem lowByte_eq_ff_iff (raw : BitVec 10) : raw.extractLsb' 0 8 = 0xFF#8 ↔ raw.toNat % 256 = 255 := by
  simp [BitVec.toNat_eq]

/-- The divisor 0 has no value: the low byte of 0 is not 0xFF (R119). -/
theorem valRainClicks_zero (mode : Bool) : valRainClicks mode 0 = none := rfl

theorem valRainClicks_of_lowByte_ff (mode : Bool) {raw : BitVec 10} (h : raw.toNat % 256 = 255) :
    valRainClicks mode raw = some 0 :=
  if_pos ((lowByte_eq_ff_iff raw).mpr h)

theorem valRainClicks_of_divisor (mode : Bool) {raw : BitVec 10} (hlow : raw.toNat % 256 ≠ 255) (hraw : raw ≠ 0) :
    valRainClicks mode raw = some ((if mode then 3600 else 57600) / (raw.toNat : Rat)) := by
  rw [valRainClicks, if_neg (mt (lowByte_eq_ff_iff raw).mp hlow), if_neg (show ¬ raw = 0#10 from hraw)]
  cases mode <;> rfl

theorem valRainMmH_of_clicks {mode : Bool} {raw : BitVec 10} {c : Rat} (h : valRainClicks mode raw = some c) :
    valRainMmH mode raw = some (c / 5) := by
  simp [valRainMmH, h]

/-- The largest raw value that divides is 0x3FE: 0x3FF has the low byte 0xFF (R144). -/
theorem divisor_range {raw : BitVec 10} (hlow : raw.toNat % 256 ≠ 255) (hraw : raw ≠ 0) :
    (1 : Rat) ≤ raw.toNat ∧ (raw.toNat : Rat) ≤ 1022 := by
  have hpos : raw.toNat ≠ 0 := fun h => hraw (BitVec.eq_of_toNat_eq h)
  have hlt := raw.isLt
  constructor
  · exact_mod_cast Nat.one_le_iff_ne_zero.mpr hpos
  · exact_mod_cast (show raw.toNat ≤ 1022 by omega)

theorem quotient_range {raw : BitVec 10} {d : Rat} (hlow : raw.toNat % 256 ≠ 255) (hraw : raw ≠ 0) (hd : 0 ≤ d) :
    d / 1022 ≤ d / raw.toNat ∧ d / raw.toNat ≤ d := by
  obtain ⟨hone, hmax⟩ := divisor_range hlow hraw
  exact ⟨div_le_div_of_nonneg_left hd (zero_lt_one.trans_le hone) hmax, div_le_self hd hone⟩

/-- Settles O56: a value of the dividing case is the mode's dividend over a divisor from 1 to 1022. -/
theorem rainRateValue : Obligations.RainRateValue := by
  intro mode raw
  refine ⟨valRainClicks_zero mode, rfl, ?maximum, ?divides⟩
  case maximum =>
    intro hlow
    have hclicks := valRainClicks_of_lowByte_ff mode hlow
    exact ⟨hclicks, by simpa using valRainMmH_of_clicks hclicks⟩
  case divides =>
    intro hlow hraw
    have hclicks := valRainClicks_of_divisor mode hlow hraw
    have hpos : (raw.toNat : Rat) ≠ 0 := (zero_lt_one.trans_le (divisor_range hlow hraw).1).ne'
    have hrange := quotient_range (d := if mode then 3600 else 57600) hlow hraw (by split <;> norm_num)
    refine ⟨_, hclicks, valRainMmH_of_clicks hclicks, div_mul_cancel₀ _ hpos, ?_⟩
    cases mode
    all_goals
      obtain ⟨hlower, hupper⟩ := hrange
      norm_num at hlower hupper ⊢
      exact ⟨⟨hlower, hupper⟩, by linarith⟩

/-! ## The temperature -/

theorem valTemp_eq (t : BitVec 16) : valTemp t = (((t.toNat / 160 : Nat) : Rat) - 32) * 5 / 9 := by
  rw [valTemp, Int.cast_sub, Int.cast_natCast]
  rfl

/-- Settles O58: the quotient is at most 409, and the value is zero where it is 32. -/
theorem temperatureValue : Obligations.TemperatureValue := by
  intro t
  have hlt := t.isLt
  have hmin : (0 : Rat) ≤ (t.toNat / 160 : Nat) := Nat.cast_nonneg _
  have hmax : ((t.toNat / 160 : Nat) : Rat) ≤ 409 := by
    exact_mod_cast (show t.toNat / 160 ≤ 409 by omega)
  have hzero : valTemp t = 0 ↔ t.toNat / 160 = 32 := by
    rw [valTemp_eq, ← Nat.cast_inj (R := Rat)]
    constructor <;> intro h <;> push_cast at * <;> linarith
  refine ⟨t.toNat / 160, by omega, by omega, valTemp_eq t, ?_, ?_, hzero.trans (by omega)⟩
  all_goals
    rw [valTemp_eq]
    linarith

/-! ## The wind direction -/

/-- The unrotated angle is below 180 exactly up to the raw value 127: 180 falls between 127 and 128 (R142). -/
theorem windAngle_lt_iff (n : Nat) : (n : Rat) * 360 / 255 < 180 ↔ n ≤ 127 := by
  rw [div_lt_iff₀ (by norm_num)]
  norm_cast
  omega

theorem windAngle_ne (n : Nat) : (n : Rat) * 360 / 255 ≠ 180 := by
  rw [Ne, div_eq_iff (by norm_num)]
  norm_cast
  omega

theorem valWindDir_of_le {r : BitVec 8} (h : r.toNat ≤ 127) : valWindDir r = (r.toNat : Rat) * 24 / 17 + 180 := by
  rw [valWindDir, if_pos ((windAngle_lt_iff _).mpr h)]
  ring

theorem valWindDir_of_ge {r : BitVec 8} (h : 128 ≤ r.toNat) : valWindDir r = (r.toNat : Rat) * 24 / 17 - 180 := by
  rw [valWindDir, if_neg (mt (windAngle_lt_iff _).mp (by omega))]
  ring

/-- The two branches of the rotation as one residue of seventeenths of a degree. -/
theorem valWindDir_eq_mod (r : BitVec 8) : valWindDir r = (((r.toNat * 24 + 3060) % 6120 : Nat) : Rat) / 17 := by
  have hlt := r.isLt
  rcases le_or_gt r.toNat 127 with h | h
  · rw [valWindDir_of_le h, Nat.mod_eq_of_lt (by omega)]
    push_cast
    ring
  · rw [valWindDir_of_ge h, show (r.toNat * 24 + 3060) % 6120 = r.toNat * 24 - 3060 by omega,
      Nat.cast_sub (by omega)]
    push_cast
    ring

/-- Settles O57: the range is that of the residue, which is never 0. -/
theorem windDirectionValue : Obligations.WindDirectionValue := by
  intro r
  have hlt := r.isLt
  have hmin : (12 : Rat) ≤ ((r.toNat * 24 + 3060) % 6120 : Nat) := by
    exact_mod_cast (show 12 ≤ (r.toNat * 24 + 3060) % 6120 by omega)
  have hmax : (((r.toNat * 24 + 3060) % 6120 : Nat) : Rat) ≤ 6108 := by
    exact_mod_cast (show (r.toNat * 24 + 3060) % 6120 ≤ 6108 by omega)
  refine ⟨valWindDir_eq_mod r, valWindDir_of_le, valWindDir_of_ge, ?_, ?_, windAngle_ne _, ?_⟩
  case refine_3 =>
    intro hends
    rw [valWindDir_eq_mod, show (r.toNat * 24 + 3060) % 6120 = 3060 by omega]
    norm_num
  all_goals
    rw [valWindDir_eq_mod]
    linarith

/-! ## The linear values -/

/-- A field of `k` bits, as a rational, is at most `2 ^ k - 1`. -/
theorem cast_toNat_le {k : Nat} (v : BitVec k) : (v.toNat : Rat) ≤ 2 ^ k - 1 := by
  rw [le_sub_iff_add_le]
  exact_mod_cast v.isLt

theorem valWindSpeed_eq (r : BitVec 8) : valWindSpeed r = (r.toNat : Rat) * 160934 / 100000 := by
  rw [valWindSpeed, Config.kMph, mul_div_assoc]

/-- Settles O59: each value grows with its field, so its range is that of the field. -/
theorem linearValues : Obligations.LinearValues := by
  refine ⟨fun r => ⟨valWindSpeed_eq r, ?_, ?_, rfl⟩, fun g => ⟨rfl, ?_, ?_⟩, fun _ => rfl, fun h => ⟨rfl, ?_, ?_⟩,
    fun _ => rfl⟩
  · rw [valWindSpeed_eq]
    positivity
  · rw [valWindSpeed_eq]
    linarith [cast_toNat_le r]
  · unfold valGoldcap
    positivity
  · rw [valGoldcap]
    linarith [cast_toNat_le g]
  · unfold valHum
    positivity
  · rw [valHum]
    linarith [cast_toNat_le h]

end Sys2Proof.Proofs
end

section
/-! The statement about the exceptions: which condition a step reports when several are presented. -/

namespace Sys2Proof.Proofs

open Sys2Proof.Machine

/-! ## The reset before the command -/

/-- Under `rst` neither `cmd` nor `pkt_in` is read (R72). -/
theorem decodeInput_of_rst {i : Input} (h : i.rst = true) : decodeInput i = .reset := if_pos h

/-! ## The two reasons for an invalid packet -/

/-- The all-zero packet but for its last byte: its covered bytes have CRC 0, and its wire CRC is 1. -/
def packetOfBothErrors : Packet := { State.reset.pkt with d7 := 0x01 }

/-- The wire CRC is not among the covered bytes. -/
theorem crcCalc_packetOfBothErrors : crcCalc packetOfBothErrors = 0x0000 := crcCalc_reset

theorem crcMatch_packetOfBothErrors : crcMatch packetOfBothErrors = false := by
  rw [crcMatch, crcCalc_packetOfBothErrors]
  rfl

theorem crcNonzero_packetOfBothErrors : crcNonzero packetOfBothErrors = false := by
  rw [crcNonzero, crcCalc_packetOfBothErrors]
  rfl

/-! ## No rain before the zero divisor -/

/-- No message type but 0x5 sets DIV0, and that one for the zero divisor alone (R114, R119). -/
theorem decoderResult_div0_of_not_zeroDivisor {s : State} (h : rainZeroDivisor s.pkt.fields = false) :
    (decoderResult s).status.div0 = false := by
  simp only [decoderResult, onType, h, ite_self]

/-- Settles O19: each priority by the rule of its own command; the two reasons for an invalid packet are not ranked. -/
theorem priorityInsideStep : Obligations.PriorityInsideStep := by
  refine ⟨?reset, ?invalid, ?zeroDivisor, ?both, ?noRain⟩
  case reset =>
    intro i s hrst
    rw [decodeInput_of_rst hrst]
    exact ⟨_, rfl, rfl⟩
  case invalid =>
    intro s hinvalid
    exact ⟨_, exec_process_of_invalid hinvalid, checkEvent_of_invalid hinvalid, rfl⟩
  case zeroDivisor =>
    intro s hvalid htype hlow hhigh
    obtain ⟨-, hprocess, -⟩ := rainrateZeroDivisor
    obtain ⟨t, hnext, hstatus, -⟩ := hprocess s hvalid htype hlow hhigh
    exact ⟨t, hnext, congrArg Status.event hstatus, congrArg Status.div0 hstatus⟩
  case both => exact ⟨packetOfBothErrors, crcMatch_packetOfBothErrors, crcNonzero_packetOfBothErrors⟩
  case noRain =>
    intro s hd3
    exact ⟨_, exec_decode s, decoderResult_div0_of_not_zeroDivisor (rainZeroDivisor_of_noRain hd3)⟩

end Sys2Proof.Proofs
end

section
/-! The statements about the hazards: a host that decodes only on SUCCESS, what can change a result register, and the reset
step. -/

namespace Sys2Proof.Proofs

open Sys2Proof.Machine Sys2Proof.Safety

/-! ## A host that decodes only on SUCCESS -/

/-- R188's duty on a run is the duty on its first sample, and on the rest from the state that sample leaves. -/
theorem decodesOnSuccess_cons {i : Input} {is : List Input} {s : State} (h : decodesOnSuccess s (i :: is) = true) :
    (decodeInput i = .decode → s.status.event = .success) ∧ decodesOnSuccess (inputResult i s) is = true := by
  rw [decodesOnSuccess, stepOn_eq_inputResult] at h
  obtain ⟨hduty, hrest⟩ := Bool.and_eq_true_iff.mp h
  exact ⟨fun hdecode => by simpa [hdecode] using hduty, hrest⟩

/-- A DECODE on SUCCESS leaves EVENT as it was, and no other sample needs the duty. -/
theorem inputResult_keeps_gated_of_duty {i : Input} {s : State} (hinv : Inv s.toBlock) (hgate : Gated s.toBlock)
    (hduty : decodeInput i = .decode → s.status.event = .success) : Gated (inputResult i s).toBlock := by
  by_cases hdecode : decodeInput i = .decode
  · simp only [inputResult, hdecode]
    exact fun _ => hduty hdecode
  · exact inputResult_keeps_gated hinv hgate hdecode

/-- A run under R188's duty ends in a gated state of the invariant. -/
theorem drive_keeps_gated_of_duty {is : List Input} {s t : State} (hinv : Inv s.toBlock) (hgate : Gated s.toBlock)
    (hduty : decodesOnSuccess s is = true) (hrun : drive s is = .next t) : Inv t.toBlock ∧ Gated t.toBlock := by
  induction is generalizing s with
  | nil =>
    cases hrun
    exact ⟨hinv, hgate⟩
  | cons i is ih =>
    obtain ⟨hfirst, hrest⟩ := decodesOnSuccess_cons hduty
    rw [drive_cons] at hrun
    exact ih (inputResult_keeps_inv i hinv) (inputResult_keeps_gated_of_duty hinv hgate hfirst) hrest hrun

/-- Settles O53: the run ends gated, and a packet marked decoded in a gated state of the invariant is valid. -/
theorem gatedHostDecodesOnlyValidPackets : Obligations.GatedHostDecodesOnlyValidPackets := by
  intro is s t hinv hgate hduty hrun hdecoded
  obtain ⟨hinv', hgate'⟩ := drive_keeps_gated_of_duty hinv hgate hduty hrun
  exact ⟨hgate' hdecoded, crcValid_of_gated hinv' hgate' hdecoded⟩

/-! ## What can change a result register -/

theorem sameResults_refl (b : Block) : SameResults b b := by
  constructor <;> rfl

theorem sameResults_setCmdErr (s : State) : SameResults s.toBlock (setCmdErr s).toBlock := by
  constructor <;> rfl

/-- PROCESS on an invalid packet writes no result (R86, R89). -/
theorem sameResults_process_of_invalid {s t : State} (hinvalid : crcValid s.pkt = false)
    (h : exec .process s = .next t) : SameResults s.toBlock t.toBlock := by
  cases (exec_process_of_invalid hinvalid).symm.trans h
  exact sameResults_setEvent _ s

/-- Settles O18: the results are kept by NOP, LOAD, LOADR, CHECK, the reserved code, and PROCESS on an invalid packet. -/
theorem resultsChangeOnlyByDecoding : Obligations.ResultsChangeOnlyByDecoding := by
  rintro ⟨rst, c, w⟩ s t hnext hchanged
  cases rst
  case true => exact .inl rfl
  case false =>
    obtain rfl : inputResult ⟨false, c, w⟩ s = t := by simpa [exec_decodeInput] using hnext
    rcases cmd_cases c with rfl | rfl | rfl | rfl | rfl | rfl | rfl | rfl
    · exact absurd (sameResults_refl s.toBlock) hchanged
    · exact absurd (sameResults_storePacket (loadOperand w) s) hchanged
    · exact absurd (sameResults_storePacket (loadrOperand w) s) hchanged
    · exact absurd (sameResults_setEvent (checkEvent s.pkt) s) hchanged
    · exact .inr (.inl rfl)
    · rcases Bool.eq_false_or_eq_true (crcValid s.pkt) with hvalid | hinvalid
      · exact .inr (.inr (.inl ⟨rfl, hvalid⟩))
      · exact absurd (sameResults_process_of_invalid hinvalid hnext) hchanged
    · exact .inr (.inr (.inr ⟨rfl, rfl⟩))
    · exact absurd (sameResults_setCmdErr s) hchanged

/-! ## The reset step -/

/-- Settles O1. -/
theorem resetStepReachesResetState : Obligations.ResetStepReachesResetState := fun s _ _ =>
  ⟨decodeInput_of_rst rfl, resetBlock s, rfl, rfl, resetBlock_toBlock s⟩

end Sys2Proof.Proofs
end

section
/-! The statements about the queue of presented samples: a step takes the oldest, a packet word put in place is the next
instruction, and a run on the queue is the run of the block on that sequence. -/

namespace Sys2Proof.Proofs

open Sys2Proof.Machine Sys2Proof.Safety

/-! ## The samples still presented are no state of the block -/

/-- The block reads only the sample it took, and leaves the others presented (R10, R50; log entry 8 for the reset). -/
theorem inputResult_withInputs (i : Input) (s : State) (later : List Input) :
    inputResult i { s with inputs := later } = { toBlock := (inputResult i s).toBlock, inputs := later } := by
  rcases decodeInput_cases i with h | h | h | h | h | h | h | h | h <;> simp only [inputResult, h]
  case inr.inr.inr.inr.inr.inl =>
    cases crcValid s.pkt <;> rfl
  all_goals rfl

@[simp] theorem inputResult_inputs (i : Input) (s : State) : (inputResult i s).inputs = s.inputs :=
  (congrArg State.inputs (inputResult_withInputs i s s.inputs) :)

/-! ## One step on the queue -/

theorem step_of_presented {s : State} {i : Input} {rest : List Input} (h : s.inputs = i :: rest) :
    step s = exec (decodeInput i) { s with inputs := rest } := by
  rw [step, sampleInput_cons s i rest h]

/-- Settles O42: the sample is taken off the queue before it runs, and no sample writes the rest. -/
theorem stepRunsPresentedInput : Obligations.StepRunsPresentedInput := by
  constructor
  · intro s i rest h
    have hstep := step_of_presented h
    exact ⟨hstep, _, hstep.trans (exec_decodeInput i _), inputResult_inputs i _⟩
  · intro s h
    have hidle : step s = exec .nop s := by
      rw [step, sampleInput_nil s h]
      rfl
    exact ⟨hidle, hidle⟩

/-! ## A packet word put in place -/

/-- A 64-bit table word is the message type of its packet (log entry 3). -/
theorem decodeTableWord_packet {w : Nat} (h : w < 2 ^ 64) :
    decodeTableWord 64 w = some (decodePacket (Packet.ofWord (BitVec.ofNat 64 w))) := by
  rw [decodeTableWord, if_pos rfl, if_pos h]
  rfl

/-- A packet word in place is a DECODE on the state that holds it (log entry 3). -/
theorem step_withFetchWord_packet (s : State) (w : Nat) :
    step (s.withFetchWord 64 w) = exec .decode { s with pkt := Packet.ofWord (BitVec.ofNat 64 w) } :=
  step_of_presented (i := ⟨false, 4, 0⟩) (rest := s.inputs) rfl

/-- Settles O43: the DECODE runs the message type of the packet in PKT. -/
theorem placedPacketWordRuns : Obligations.PlacedPacketWordRuns := fun s w h =>
  ⟨decodeTableWord_packet h, (step_withFetchWord_packet s w).trans (exec_decode_eq_exec_decodePacket _)⟩

/-! ## A run on the queue -/

/-- A run goes on from the state its first step answers. -/
theorem run_succ_of_step {M : Host.Core} {s t : M.State} (h : M.step s = .next t) (n : Nat) :
    M.run (n + 1) s = M.run n t := by
  rw [Host.Core.run, h]

theorem step_presented (i : Input) (rest : List Input) (s : State) :
    step { s with inputs := i :: rest } = .next { toBlock := (inputResult i s).toBlock, inputs := rest } := by
  rw [← inputResult_withInputs]
  exact step_eq_inputResult _

/-- Sample by sample, the machine and the block go through the same states but for what is still presented. -/
theorem drive_eq_run (is : List Input) (s : State) :
    ∃ t, drive s is = .next t ∧
      ∀ later : List Input, Sys2Proof.core.run is.length { s with inputs := is ++ later } =
        .next { t with inputs := later } := by
  induction is generalizing s with
  | nil => exact ⟨s, rfl, fun _ => rfl⟩
  | cons i is ih =>
    obtain ⟨t, hdrive, hrun⟩ := ih (inputResult i s)
    exact ⟨t, (drive_cons i is s).trans hdrive, fun later =>
      (run_succ_of_step (step_presented i (is ++ later) s) is.length).trans (hrun later)⟩

/-- Settles O44, by induction on the list of samples. -/
theorem queuedRunIsInputSequence : Obligations.QueuedRunIsInputSequence := fun is s =>
  drive_eq_run is { s with inputs := [] }

end Sys2Proof.Proofs
end
